-- ==== Sys2Proof/Word.lean ====
section
/-! DEFINITION. The word types of the block (00_scope.md R11: all values are unsigned). -/

namespace Sys2Proof

/-- A 32-bit word: every datum of the host port, every codeword and every window (00_scope.md R9, R11). -/
abbrev Word := BitVec 32

/-- A byte of the input bit buffer: eight consecutive sequence bits, the first one in bit 7. -/
abbrev Byte := BitVec 8

end Sys2Proof
end

