-- ==== Sys2Proof/Machine/Constants.lean ====
section
/-! DEFINITION. The fixed constants of the block (00_scope.md R7, 10_state.md R41). -/

namespace Sys2Proof.Machine

/-- PREAMBLE, the synchronisation word (00_scope.md R7). -/
def preambleWord : Word := 0x7CD215D8#32

/-- IDLE, the idle codeword (00_scope.md R7). -/
def idleWord : Word := 0x7A89C197#32

/-- G, the generator polynomial x^10 + x^9 + x^8 + x^6 + x^5 + x^3 + 1 (00_scope.md R7, 41_error_correction.md R170),
eleven coefficients, x^10 in bit 10. -/
def generator : BitVec 11 := 0x769#11

/-- CW_BITS: the bits of a codeword (00_scope.md R7). -/
abbrev cwBits : Nat := 32

/-- BATCH_CWS: the codewords of a batch (00_scope.md R7). -/
abbrev batchCws : Nat := 16

/-- BATCH_BITS: the bits of a batch (00_scope.md R7). -/
abbrev batchBits : Nat := batchCws * cwBits

/-- The value register ID reads (10_state.md R41): "PC", major 1, minor 0. -/
def idValue : Word := 0x50430100#32

end Sys2Proof.Machine
end

