-- ==== Sys2Proof/Machine/Operands.lean ====
section
/-! DEFINITION. Operand forms: bit sequences and the two packings (00_scope.md R8 to R10), the fields of a codeword
(42_frame_parser.md R200), its type (R202), and BCD digits (40_bitpacking.md R147, R148). -/

namespace Sys2Proof.Machine

/-! ### Bit sequences -/

/-- Sequence bit j of the word w, W[31-j] (00_scope.md R9); j < 32. -/
def seqBit (w : Word) (j : Nat) : Bool := w.getLsbD (31 - j)

/-- The n sequence bits of w from index j on, in reception order (00_scope.md R8). -/
def seqBits (w : Word) (j n : Nat) : List Bool := (List.range n).map fun i => seqBit w (j + i)

/-- MSB-first packing: the first bit is the most significant (00_scope.md R9). -/
def packMsb (bits : List Bool) : Nat := bits.foldl (fun a b => 2 * a + b.toNat) 0

/-- LSB-first packing: the first bit is the least significant (00_scope.md R10). -/
def packLsb (bits : List Bool) : Nat := bits.foldr (fun b a => b.toNat + 2 * a) 0

/-- e(j): the word with only sequence bit j set (00_scope.md R11). -/
def seqMask (j : Nat) : Word := 1#32 <<< (31 - j)

/-! ### Codeword fields -/

/-- FLAG = W[31] (42_frame_parser.md R200). -/
def flagBit (w : Word) : Bool := w.getLsbD 31

/-- PAYLOAD = W[30:11] (42_frame_parser.md R200). -/
def payloadOf (w : Word) : BitVec 20 := w.extractLsb' 11 20

/-- CHECK = W[10:1] (42_frame_parser.md R200). -/
def checkOf (w : Word) : BitVec 10 := w.extractLsb' 1 10

/-- PARITY = W[0] (42_frame_parser.md R200). -/
def parityBit (w : Word) : Bool := w.getLsbD 0

/-- The three codeword types (42_frame_parser.md R202). -/
inductive CwType
  | address
  | message
  | idle
deriving DecidableEq, Repr

/-- The 2-bit code of a type (42_frame_parser.md R202). -/
def typeCode : CwType → BitVec 2
  | .address => 0#2
  | .message => 1#2
  | .idle => 2#2

/-- Type(W): the Idle comparison comes first and is exact, then the flag bit decides (42_frame_parser.md R202). -/
def typeOf (w : Word) : CwType :=
  if w = idleWord then .idle else if flagBit w then .message else .address

/-! ### BCD -/

/-- BcdChar(d) (40_bitpacking.md R147): ASCII codes, and 0x00 for digit 10. -/
def bcdChar (d : Nat) : BitVec 8 :=
  if d ≤ 9 then BitVec.ofNat 8 (0x30 + d)
  else if d = 10 then 0x00#8
  else if d = 11 then 0x55#8
  else if d = 12 then 0x20#8
  else if d = 13 then 0x2D#8
  else if d = 14 then 0x29#8
  else 0x28#8

/-- BcdEmit(d): 0 for digit 10 only (40_bitpacking.md R147). -/
def bcdEmit (d : Nat) : Bool := d != 10

/-- Payload sequence bit m of the payload held in OPA[19:0], P[19-m] (40_bitpacking.md R148). -/
def payloadBit (opa : Word) (m : Nat) : Bool := opa.getLsbD (19 - m)

/-- Digit d_k of the payload, its four bits LSB-first (40_bitpacking.md R148). -/
def bcdDigit (opa : Word) (k : Nat) : Nat :=
  packLsb ((List.range 4).map fun i => payloadBit opa (4 * k + i))

end Sys2Proof.Machine
end

