-- ==== Sys2Proof/Config.lean ====
section
/-! DEFINITION. The implementation parameters of the block (00_scope.md R6). The spec leaves both open and asks a model
to take them as arguments; they are carried in the state, so that a statement about every state is one about every
implementation (log 2). -/

namespace Sys2Proof

/-- The two parameters of 00_scope.md R6. BUF_WORDS is a power of two and is given by its logarithm, the value that
PARAM reports (10_state.md R50). -/
structure Params where
  /-- log2(BUF_WORDS). -/
  log2BufWords : Nat
  /-- FIFO_DEPTH. -/
  fifoDepth : Nat
deriving DecidableEq, Repr

/-- The ranges of 00_scope.md R6: 1 <= BUF_WORDS <= 65536 and 2 <= FIFO_DEPTH <= 255. -/
abbrev Params.wf (p : Params) : Prop :=
  p.log2BufWords ≤ 16 ∧ 2 ≤ p.fifoDepth ∧ p.fifoDepth ≤ 255

/-- BUF_WORDS: the number of 32-bit words of the input bit buffer. -/
def Params.bufWords (p : Params) : Nat := 2 ^ p.log2BufWords

/-- BUF_BITS = 32 * BUF_WORDS (00_scope.md R6). -/
def Params.bufBits (p : Params) : Nat := 32 * p.bufWords

/-- The values 00_scope.md R6 suggests: 2048 words and 64 records (DESIGN CHOICE, log 2). -/
def Params.suggested : Params := { log2BufWords := 11, fifoDepth := 64 }

end Sys2Proof
end

