-- ==== Sys2Proof/Machine/State.lean ====
section
/-! DEFINITION. The state of the block (10_state.md R31) as plain data, why a step can stop, and the state after reset
(10_state.md R58). -/

namespace Sys2Proof.Machine

/-- Why the machine stops with a fault. The block itself has no trap (60_exceptions.md R290); both faults are the
model's, required by 20_memory.md R85 and 93_implementation_defined.md I1. -/
inductive Fault
  /-- A BUFDATA read of a word never written since power-on. Raised by the host port. Safe: the hardware goes on with a
  value the spec does not fix. -/
  | unwrittenBufdata
  /-- An engine window read that touches a word never written since power-on. Raised by the SCAN and BATCH steps.
  Safe: the hardware goes on with a value the spec does not fix. -/
  | unwrittenWindow
deriving DecidableEq, Repr

/-- Why the model gives no meaning. -/
inductive Refusal
  /-- The named instruction has no meaning yet. Raised by no arm of exec. Safe. -/
  | notModelled (mnemonic : String)
deriving DecidableEq, Repr

/-- ESTATE, the engine state (10_state.md R52). -/
inductive EState
  /-- No engine command in progress. -/
  | idle
  /-- A RUN was accepted; the assembler slot is being closed. -/
  | start
  /-- Comparing Window(P) with PREAMBLE. -/
  | scan
  /-- Processing codeword K of the batch after the preamble at P. -/
  | batch
  /-- End of a RUN's input. -/
  | flush
  /-- An ASMCW job is pending. -/
  | asm
  /-- An ASMEND job is pending. -/
  | aend
deriving DecidableEq, Repr

/-- A record of the output FIFO: 64 bits, a pair of words (20_memory.md R89, 43_message_assembler.md R250). -/
structure Record where
  hi : Word
  lo : Word
deriving DecidableEq, Repr

/-- One access of the host port: a read or a write of one 32-bit word at byte address A[6:0] (20_memory.md R80). -/
inductive HostAccess
  | read (addr : BitVec 7)
  | write (addr : BitVec 7) (v : Word)
deriving DecidableEq, Repr

/-- What the outside world and the schedule do next (log 1). -/
inductive PortEvent
  /-- The host performs one access (20_memory.md R80). -/
  | host (acc : HostAccess)
  /-- The engine takes its turn (20_memory.md R81, 42_frame_parser.md R210). -/
  | engine
  /-- A clock cycle with rst = 1, and the access the host attempts in it, if any (70_reset_and_hazards.md R320). -/
  | rst (attempted : Option HostAccess)
  /-- The host primitive `poll REG, mask, v` (30_encoding.md R119). -/
  | poll (addr : BitVec 7) (mask v : Word)
  /-- The pseudo-instruction `drain` (30_encoding.md R120). -/
  | drain
  /-- The polling part of the pseudo-instruction `decodeall` (30_encoding.md R120). -/
  | drainUntilDone
deriving DecidableEq, Repr

/-- The state of the block (10_state.md R31), and three fields of the model's own: params, agenda and rdata. -/
structure State where
  /-- The model's own: the implementation parameters, never changed by a step (00_scope.md R6, log 2). -/
  params : Params
  /-- The model's own: the accesses, engine turns and rst cycles still to come, the next one first (log 1). -/
  agenda : List PortEvent
  /-- The model's own: what the port answered to the last read (log 6). -/
  rdata : Word
  /-- OPA (10_state.md R32). -/
  opa : Word
  /-- RES0 (10_state.md R33). -/
  res0 : Word
  /-- RES1 (10_state.md R34). -/
  res1 : Word
  /-- LEN (10_state.md R44). -/
  len : Word
  /-- BUFADDR (10_state.md R45). -/
  bufaddr : Word
  /-- STATUS.SYNC, bit 2 (10_state.md R43). -/
  stSync : Bool
  /-- STATUS.DONE, bit 3 (10_state.md R43). -/
  stDone : Bool
  /-- STATUS.NOSYNC, bit 4 (10_state.md R43). -/
  stNosync : Bool
  /-- STATUS.INCOMPLETE, bit 5 (10_state.md R43). -/
  stIncomplete : Bool
  /-- STATUS.ERR_ILLEGAL, bit 24 (10_state.md R43). -/
  errIllegal : Bool
  /-- STATUS.ERR_BUSY, bit 25 (10_state.md R43). -/
  errBusy : Bool
  /-- STATUS.ERR_ARG, bit 26 (10_state.md R43). -/
  errArg : Bool
  /-- STATUS.ORPHAN, bit 28 (10_state.md R43). -/
  stOrphan : Bool
  /-- STATUS.UNCORR, bit 29 (10_state.md R43). -/
  stUncorr : Bool
  /-- STAT_BATCH (10_state.md R49). -/
  statBatch : Word
  /-- STAT_CW (10_state.md R49). -/
  statCw : Word
  /-- STAT_FIX (10_state.md R49). -/
  statFix : Word
  /-- STAT_BAD (10_state.md R49). -/
  statBad : Word
  /-- STAT_MSG (10_state.md R49). -/
  statMsg : Word
  /-- STAT_ORPH (10_state.md R49). -/
  statOrph : Word
  /-- ESTATE (10_state.md R52). -/
  estate : EState
  /-- P, the scan position, a buffer bit index (10_state.md R36, log 4). -/
  scanP : Nat
  /-- K, the codeword index within the batch (10_state.md R36). -/
  cwK : BitVec 4
  /-- RUNBATCH (10_state.md R53); the host sees it in the RUN_DONE record only (DEDUCED, log 14). -/
  runBatch : Word
  /-- JOBW (10_state.md R54). -/
  jobW : Word
  /-- JOBI (10_state.md R54). -/
  jobI : BitVec 4
  /-- OPENF (10_state.md R55). -/
  openF : Bool
  /-- RW (10_state.md R55). -/
  slotRW : Word
  /-- MV (10_state.md R55). -/
  slotMV : Bool
  /-- PCNT (10_state.md R55). -/
  slotPcnt : BitVec 16
  /-- IBB, the input bit buffer (20_memory.md R83): byte a holds the buffer bits 8a to 8a+7 (log 5). -/
  ibb : List Host.Cell
  /-- The output FIFO, the head record first (20_memory.md R89). -/
  fifo : List Record
deriving DecidableEq, Repr

/-- The state after reset of a block with the parameters p, every IBB word unwritten (10_state.md R58,
70_reset_and_hazards.md R322). -/
def State.resetWith (p : Params) : State where
  params := p
  agenda := []
  rdata := 0#32
  opa := 0#32
  res0 := 0#32
  res1 := 0#32
  len := 0#32
  bufaddr := 0#32
  stSync := false
  stDone := false
  stNosync := false
  stIncomplete := false
  errIllegal := false
  errBusy := false
  errArg := false
  stOrphan := false
  stUncorr := false
  statBatch := 0#32
  statCw := 0#32
  statFix := 0#32
  statBad := 0#32
  statMsg := 0#32
  statOrph := 0#32
  estate := .idle
  scanP := 0
  cwK := 0#4
  runBatch := 0#32
  jobW := 0#32
  jobI := 0#4
  openF := false
  slotRW := 0#32
  slotMV := false
  slotPcnt := 0#16
  ibb := []
  fifo := []

/-- The machine right after reset (10_state.md R58), with the suggested parameters (log 2). -/
def State.reset : State := State.resetWith Params.suggested

end Sys2Proof.Machine
end

