-- ==== Sys2Proof/Machine/Ops.lean ====
section
/-! DEFINITION. The named operations over the state: the input bit buffer (20_memory.md R83 to R88), the output FIFO
(R89 to R91), the conditions (60_exceptions.md R290), the acceptance of a command (30_encoding.md R117) and reset
(10_state.md R58). -/

namespace Sys2Proof.Machine

/-! ### Bytes and words of the input bit buffer -/

/-- The byte at address a, none where nothing has been written: an unwritten word holds no value (20_memory.md R85). -/
def readByte : List Host.Cell → Nat → Option Byte
  | [], _ => none
  | (k, b) :: m, a => if k = a then some b else readByte m a

/-- Store a byte, keeping the addresses strictly rising. -/
def writeByte : List Host.Cell → Nat → Byte → List Host.Cell
  | [], a, v => [(a, v)]
  | (k, b) :: m, a, v =>
    if a < k then (a, v) :: (k, b) :: m
    else if a = k then (a, v) :: m
    else (k, b) :: writeByte m a v

/-- The canonical form of the buffer's list: addresses strictly rising (log 5). An unlisted byte reads as no value, so no
entry can equal what an unlisted address reads as. -/
abbrev Memory.wf (m : List Host.Cell) : Prop := (m.map Prod.fst).Pairwise (· < ·)

/-- IBB[i] (20_memory.md R83): word bit 31 is the first sequence bit (R82), so the byte 4i is the most significant;
none while the word is unwritten (R85). -/
def readWord (m : List Host.Cell) (i : Nat) : Option Word :=
  match readByte m (4 * i), readByte m (4 * i + 1), readByte m (4 * i + 2), readByte m (4 * i + 3) with
  | some b0, some b1, some b2, some b3 => some (b0 ++ b1 ++ b2 ++ b3)
  | _, _, _, _ => none

/-- IBB[i] <- v (20_memory.md R87); the word becomes written. -/
def writeWord (m : List Host.Cell) (i : Nat) (v : Word) : List Host.Cell :=
  writeByte (writeByte (writeByte (writeByte m (4 * i) (v.extractLsb' 24 8)) (4 * i + 1) (v.extractLsb' 16 8))
    (4 * i + 2) (v.extractLsb' 8 8)) (4 * i + 3) (v.extractLsb' 0 8)

/-- BufBit(b) = IBB[b >> 5][31 - (b and 31)] (20_memory.md R84). -/
def bufBit (m : List Host.Cell) (b : Nat) : Option Bool :=
  (readWord m (b / 32)).map fun w => w.getLsbD (31 - b % 32)

/-- Window(b): the 32 buffer bits from b on, MSB-first (20_memory.md R84), in the form the rule derives: one word when b is
a multiple of 32, the two words it spans otherwise; none when it touches an unwritten word (R85). -/
def window (m : List Host.Cell) (b : Nat) : Option Word :=
  if b % 32 = 0 then readWord m (b / 32)
  else match readWord m (b / 32), readWord m (b / 32 + 1) with
    | some w0, some w1 => some ((w0 <<< (b % 32)) ||| (w1 >>> (32 - b % 32)))
    | _, _ => none

/-! ### Views -/

/-- BUSY: 1 exactly when ESTATE is not IDLE (10_state.md R52; DEDUCED, log 3). -/
def busy (s : State) : Bool := s.estate != .idle

/-- OUT_NE (10_state.md R43, 20_memory.md R89). -/
def outNe (s : State) : Bool := decide (0 < s.fifo.length)

/-- OUT_FULL (10_state.md R43, 20_memory.md R89). -/
def outFull (s : State) : Bool := decide (s.fifo.length = s.params.fifoDepth)

/-- Free(): the number of empty FIFO entries (00_scope.md R12, 20_memory.md R89). -/
def free (s : State) : Nat := s.params.fifoDepth - s.fifo.length

/-! ### Updates -/

/-- A computing unit command writes RES0 and RES1 together (10_state.md R33, R34). -/
def setResults (r0 r1 : Word) (s : State) : State := { s with res0 := r0, res1 := r1 }

/-- Push(hi, lo): append the record at the tail (20_memory.md R90). -/
def push (r : Record) (s : State) : State := { s with fifo := s.fifo ++ [r] }

/-- Remove the head record (20_memory.md R91). -/
def pop (s : State) : State := { s with fifo := s.fifo.tail }

/-- The answer of the port to a read. -/
def answer (v : Word) (s : State) : State := { s with rdata := v }

/-- ESTATE <- e (10_state.md R52). -/
def setEstate (e : EState) (s : State) : State := { s with estate := e }

/-! ### Conditions -/

/-- The conditions of 60_exceptions.md R290, the complete list. -/
inductive Condition
  | errIllegal
  | errBusy
  | errArg
  | orphan
  | uncorr
  | incomplete
  | nosync
deriving DecidableEq, Repr

/-- The condition code: the number of the STATUS bit that records the condition (60_exceptions.md R290). -/
def conditionCode : Condition → Nat
  | .errIllegal => 24
  | .errBusy => 25
  | .errArg => 26
  | .orphan => 28
  | .uncorr => 29
  | .incomplete => 5
  | .nosync => 4

/-- raise E: set the status bit of the condition; no control transfer follows (00_scope.md R12, 60_exceptions.md R290,
R295). This is all the block has in place of taking an exception. -/
def raiseCond : Condition → State → State
  | .errIllegal, s => { s with errIllegal := true }
  | .errBusy, s => { s with errBusy := true }
  | .errArg, s => { s with errArg := true }
  | .orphan, s => { s with stOrphan := true }
  | .uncorr, s => { s with stUncorr := true }
  | .incomplete, s => { s with stIncomplete := true }
  | .nosync, s => { s with stNosync := true }

/-! ### Acceptance, holds and reset -/

/-- An access that is refused while BUSY = 1: it then only raises ERR_BUSY (30_encoding.md R117,
70_reset_and_hazards.md R330). -/
def accept (s : State) (f : State → State) : State :=
  if busy s then raiseCond .errBusy s else f s

/-- A step that pushes m records is enabled only when Free() >= m; otherwise the engine holds
(42_frame_parser.md R210). -/
def whenFree (m : Nat) (s : State) (f : State → State) : State := if m ≤ free s then f s else s

/-- The transition of rst and of SRESET: every state of 10_state.md R58 takes its reset value; IBB is not changed
(70_reset_and_hazards.md R320, R321). The parameters are no state, and the host's pending accesses and the last answer of
the port are not the block's. -/
def resetBlock (s : State) : State :=
  { State.resetWith s.params with agenda := s.agenda, rdata := s.rdata, ibb := s.ibb }

end Sys2Proof.Machine
end

