-- ==== Sys2Proof/Machine/Flags.lean ====
section
/-! DEFINITION. The flag computations: parity (40_bitpacking.md R141), the STATUS word and its W1C write (10_state.md R43,
70_reset_and_hazards.md R335). -/

namespace Sys2Proof.Machine

/-- popcount(v) of a word (00_scope.md R11). -/
def popcount (w : Word) : Nat := (seqBits w 0 32).count true

/-- ParityOK(W) (40_bitpacking.md R141). -/
def parityOk (w : Word) : Bool := popcount w % 2 == 0

/-- PExp(W) = W[31] xor ... xor W[1] (40_bitpacking.md R141). -/
def parityExp (w : Word) : Bool := (seqBits w 0 31).foldl xor false

/-- The STATUS word (10_state.md R43), from bit 31 down to bit 0; BUSY, OPEN and the OUT fields are views of ESTATE,
OPENF and the FIFO (R52, R55, 20_memory.md R89). -/
def statusWord (s : State) : Word :=
  (0#2 ++ BitVec.ofBool s.stUncorr ++ BitVec.ofBool s.stOrphan ++ 0#1 ++ BitVec.ofBool s.errArg
    ++ BitVec.ofBool s.errBusy ++ BitVec.ofBool s.errIllegal ++ BitVec.ofNat 8 s.fifo.length ++ 0#6
    ++ BitVec.ofBool (outFull s) ++ BitVec.ofBool (outNe s) ++ 0#2 ++ BitVec.ofBool s.stIncomplete
    ++ BitVec.ofBool s.stNosync ++ BitVec.ofBool s.stDone ++ BitVec.ofBool s.stSync ++ BitVec.ofBool s.openF
    ++ BitVec.ofBool (busy s) : BitVec 32)

/-- A host write of v to STATUS: it clears exactly the W1C bits written as 1 (10_state.md R43,
70_reset_and_hazards.md R335); the only return from a condition (60_exceptions.md R296). -/
def writeStatus (v : Word) (s : State) : State :=
  { s with
    errIllegal := s.errIllegal && !v.getLsbD 24
    errBusy := s.errBusy && !v.getLsbD 25
    errArg := s.errArg && !v.getLsbD 26
    stOrphan := s.stOrphan && !v.getLsbD 28
    stUncorr := s.stUncorr && !v.getLsbD 29 }

end Sys2Proof.Machine
end

