-- ==== Sys2Proof/Machine/Ecc.lean ====
section
/-! DEFINITION. The BCH(31,21) syndrome and the correction function (41_error_correction.md R170 to R175). -/

namespace Sys2Proof.Machine

/-- One step of the bit-serial divider (41_error_correction.md R173): shift the next coefficient in, reduce by G when the
coefficient of x^10 is set. -/
def synStep (r : BitVec 11) (b : Bool) : BitVec 11 :=
  let r' := (r <<< 1) ||| (BitVec.ofBool b).setWidth 11
  if r'.getLsbD 10 then r' ^^^ generator else r'

/-- The divider over a whole list of coefficients, the highest degree first. -/
def synFold (bits : List Bool) : BitVec 11 := bits.foldl synStep 0#11

/-- Syn(W): the remainder of the protected span W[31:1] modulo G, by the serial form (41_error_correction.md R170,
R173; DEDUCED, log 9). -/
def syn (w : Word) : BitVec 10 := (synFold (seqBits w 0 31)).setWidth 10

/-- The weight-1 patterns of the protected span: j in 0..30 (41_error_correction.md R174). -/
def singlePatterns : List Word := (List.range 31).map seqMask

/-- The weight-2 patterns of the protected span: i < j in 0..30 (41_error_correction.md R174). -/
def doublePatterns : List Word :=
  (List.range 31).flatMap fun j => (List.range j).map fun i => seqMask i ^^^ seqMask j

/-- The first pattern of a list whose flip gives syndrome 0 (41_error_correction.md R174); at most one pattern of weight
1 or 2 does (R177). -/
def findPattern (w : Word) (patterns : List Word) : Option Word :=
  patterns.find? fun e => syn (w ^^^ e) == 0#10

/-- What the BCH stages 1 and 2 of Correct leave: W1, N and UNC (41_error_correction.md R174). -/
structure BchResult where
  w1 : Word
  n : BitVec 2
  unc : Bool
deriving DecidableEq, Repr

/-- Stages 1 and 2 of Correct: no error, one flip, two flips, or uncorrectable and unchanged
(41_error_correction.md R174). -/
def bchStage (w : Word) : BchResult :=
  if syn w = 0#10 then { w1 := w, n := 0#2, unc := false }
  else match findPattern w singlePatterns with
    | some e => { w1 := w ^^^ e, n := 1#2, unc := false }
    | none => match findPattern w doublePatterns with
      | some e => { w1 := w ^^^ e, n := 2#2, unc := false }
      | none => { w1 := w, n := 0#2, unc := true }

/-- The result (W2, N, VALID, UNC, PFLIP, POK, S0) of Correct (41_error_correction.md R174). -/
structure Correction where
  w2 : Word
  n : BitVec 2
  valid : Bool
  unc : Bool
  pflip : Bool
  pok : Bool
  s0 : BitVec 10
deriving DecidableEq, Repr

/-- PFLIP: the parity bit alone was wrong (41_error_correction.md R174, stage 3). -/
def parityFlip (w w1 : Word) : Bool := syn w == 0#10 && !parityOk w1

/-- Correct(W) (41_error_correction.md R174, R175). -/
def correctWord (w : Word) : Correction :=
  let b := bchStage w
  let pflip := parityFlip w b.w1
  let w2 := if pflip then b.w1 ^^^ 1#32 else b.w1
  { w2 := w2
    n := if pflip then 1#2 else b.n
    valid := !b.unc && parityOk w2
    unc := b.unc
    pflip := pflip
    pok := parityOk w2
    s0 := syn w }

end Sys2Proof.Machine
end

