-- ==== Sys2Proof/Machine/Assembler.lean ====
section
/-! DEFINITION. The message assembler: the codeword step, the output records, ASMCW and ASMEND
(43_message_assembler.md). -/

namespace Sys2Proof.Machine

/-! ### Records (43_message_assembler.md R250) -/

/-- A codeword record of kind 1, 2 or 4 (43_message_assembler.md R240, R250). -/
def codewordRecord (kind cwi : BitVec 4) (c : Correction) : Record where
  hi := (kind ++ cwi ++ c.n ++ BitVec.ofBool c.valid ++ 0#1 ++ payloadOf c.w2 : BitVec 32)
  lo := c.w2

/-- Why a message is closed: by an Address codeword, by an Idle codeword, or at the end of input
(43_message_assembler.md R250). -/
inductive CloseReason
  | addr
  | idle
  | endOfInput
deriving DecidableEq, Repr

/-- REASON, the 2-bit code (43_message_assembler.md R250). -/
def reasonCode : CloseReason → BitVec 2
  | .addr => 0#2
  | .idle => 1#2
  | .endOfInput => 2#2

/-- A MSG_CLOSE record (43_message_assembler.md R240, R250). -/
def closeRecord (reason : CloseReason) (mv : Bool) (pcnt : BitVec 16) (recipient : Word) : Record where
  hi := (3#4 ++ reasonCode reason ++ 0#4 ++ BitVec.ofBool mv ++ 0#5 ++ pcnt : BitVec 32)
  lo := recipient

/-! ### The assembler's transitions (43_message_assembler.md R240 to R244) -/

/-- CloseMsg(reason): push the MSG_CLOSE record, count it, empty the slot (43_message_assembler.md R240). -/
def closeMsg (reason : CloseReason) (s : State) : State :=
  { push (closeRecord reason s.slotMV s.slotPcnt s.slotRW) s with statMsg := s.statMsg + 1#32, openF := false }

/-- `if OPENF == 1: CloseMsg(reason)`. -/
def closeIfOpen (reason : CloseReason) (s : State) : State := if s.openF then closeMsg reason s else s

/-- The diagnostics of every codeword: STAT_CW, STAT_FIX, and STAT_BAD with UNCORR when VALID = 0
(43_message_assembler.md R240). -/
def countCodeword (c : Correction) (s : State) : State :=
  { s with
    statCw := s.statCw + 1#32
    statFix := s.statFix + c.n.setWidth 32
    statBad := if c.valid then s.statBad else s.statBad + 1#32
    stUncorr := s.stUncorr || !c.valid }

/-- An Address codeword closes the open message and opens the next (43_message_assembler.md R243). -/
def onAddress (cwi : BitVec 4) (c : Correction) (s : State) : State :=
  { push (codewordRecord 1#4 cwi c) (closeIfOpen .addr s) with
    openF := true, slotRW := c.w2, slotMV := c.valid, slotPcnt := 0#16 }

/-- An Idle codeword closes the open message (43_message_assembler.md R244). -/
def onIdle (s : State) : State := closeIfOpen .idle s

/-- PCNT <- min(PCNT + 1, 0xFFFF) (43_message_assembler.md R241). -/
def satInc (v : BitVec 16) : BitVec 16 := if v = 0xFFFF#16 then v else v + 1#16

/-- A Message codeword while a message is open (43_message_assembler.md R241). -/
def onPayload (cwi : BitVec 4) (c : Correction) (s : State) : State :=
  { push (codewordRecord 2#4 cwi c) s with slotMV := s.slotMV && c.valid, slotPcnt := satInc s.slotPcnt }

/-- A Message codeword while no message is open: an orphan (43_message_assembler.md R242). -/
def onOrphan (cwi : BitVec 4) (c : Correction) (s : State) : State :=
  raiseCond .orphan { push (codewordRecord 4#4 cwi c) s with statOrph := s.statOrph + 1#32 }

/-- The transition on a corrected codeword by its type (43_message_assembler.md R240). -/
def assemble (cwi : BitVec 4) (c : Correction) (s : State) : State :=
  match typeOf c.w2 with
  | .address => onAddress cwi c s
  | .idle => onIdle s
  | .message => if s.openF then onPayload cwi c s else onOrphan cwi c s

/-- CodewordStep(raw, cwi) (43_message_assembler.md R240). -/
def codewordStep (raw : Word) (cwi : BitVec 4) (s : State) : State :=
  assemble cwi (correctWord raw) (countCodeword (correctWord raw) s)

/-- Need(raw): the records the codeword step pushes (43_message_assembler.md R240). -/
def need (raw : Word) (s : State) : Nat :=
  match typeOf (correctWord raw).w2 with
  | .address => 1 + s.openF.toNat
  | .idle => s.openF.toNat
  | .message => 1

/-! ### The commands -/

/-- ASMCW: latch the raw codeword and the tag for the ASM step (43_message_assembler.md R245). -/
def execAsmcw (tag : BitVec 4) (s : State) : Host.Outcome State Fault Refusal :=
  .next (accept s fun s => { s with jobW := s.opa, jobI := tag, estate := .asm })

/-- ASMEND: the AEND step ends the host's codeword stream (43_message_assembler.md R246). -/
def execAsmend (s : State) : Host.Outcome State Fault Refusal :=
  .next (accept s fun s => setEstate .aend s)

end Sys2Proof.Machine
end

