-- ==== Sys2Proof/Syntax.lean ====
section
/-! DEFINITION. The commands of the block, one constructor per row of spec/opcode_table.json (30_encoding.md R112). -/

namespace Sys2Proof

/-- A command. Only PACKM, PACKL and ASMCW carry an operand in the command word (30_encoding.md R110, R111). -/
inductive Instr
  /-- 44_control.md R270. -/
  | nop
  /-- 41_error_correction.md R171. -/
  | synd
  /-- 40_bitpacking.md R142. -/
  | parity
  /-- 41_error_correction.md R176. -/
  | correct
  /-- 42_frame_parser.md R203. -/
  | classify
  /-- 42_frame_parser.md R204. -/
  | decode
  /-- 40_bitpacking.md R143; g is the group width CMD[23:16]. -/
  | packm (g : BitVec 8)
  /-- 40_bitpacking.md R146; g is the group width CMD[23:16]. -/
  | packl (g : BitVec 8)
  /-- 40_bitpacking.md R149. -/
  | bcd5
  /-- 42_frame_parser.md R206. -/
  | run
  /-- 43_message_assembler.md R245; the tag is CMD[3:0]. -/
  | asmcw (tag : BitVec 4)
  /-- 43_message_assembler.md R246. -/
  | asmend
  /-- 44_control.md R271. -/
  | statclr
  /-- 44_control.md R272. -/
  | sreset
deriving DecidableEq, Repr

end Sys2Proof
end

