-- ==== Sys2Proof/WellFormed.lean ====
section
/-! DEFINITION. Which commands an assembler emits (30_encoding.md R118): a group width is 1..32. The other words can be
written to CMD as raw values; they decode, and their meaning raises ERR_ARG (40_bitpacking.md R145). -/

namespace Sys2Proof

/-- The legal group widths of PACKM and PACKL (30_encoding.md R111, 40_bitpacking.md R145). -/
abbrev LegalWidth (g : BitVec 8) : Prop := 1 ≤ g.toNat ∧ g.toNat ≤ 32

/-- The commands of the assembler syntax of 30_encoding.md R118. -/
def Instr.WellFormed : Instr → Bool
  | .packm g => decide (LegalWidth g)
  | .packl g => decide (LegalWidth g)
  | .nop => true
  | .synd => true
  | .parity => true
  | .correct => true
  | .classify => true
  | .decode => true
  | .bcd5 => true
  | .run => true
  | .asmcw _ => true
  | .asmend => true
  | .statclr => true
  | .sreset => true

end Sys2Proof
end

