-- ==== Sys2Proof/Decode.lean ====
section
/-! DEFINITION. Decoding and encoding of command words (30_encoding.md R110 to R116). A command is exactly one 32-bit
word, so the decoder reads a word; it is total, and an undefined OP is rejected by name. -/

namespace Sys2Proof

/-- Why a word is no command. -/
inductive Reject
  /-- The OP field is none of 30_encoding.md R112 (R114); the port raises ERR_ILLEGAL. -/
  | illegalOp (op : BitVec 8)
deriving DecidableEq, Repr

/-- OP = CMD[31:24] (30_encoding.md R110). -/
def opOf (c : Word) : BitVec 8 := c.extractLsb' 24 8

/-- ARG1 = CMD[23:16], the group width of PACKM and PACKL (30_encoding.md R110, R111). -/
def arg1Of (c : Word) : BitVec 8 := c.extractLsb' 16 8

/-- ARG0[3:0] = CMD[3:0], the tag of ASMCW (30_encoding.md R110, R111, 43_message_assembler.md R245).
93_implementation_defined.md I14 names ARG1[3:0] in passing; the model follows the numbered rules (DEDUCED, log 13). -/
def tagOf (c : Word) : BitVec 4 := c.extractLsb' 0 4

/-- The opcode map of 30_encoding.md R112. The fields a command does not use are ignored (R113). -/
def decode (c : Word) : Except Reject Instr :=
  match (opOf c).toNat with
  | 0x00 => .ok .nop
  | 0x01 => .ok .synd
  | 0x02 => .ok .parity
  | 0x03 => .ok .correct
  | 0x04 => .ok .classify
  | 0x05 => .ok .decode
  | 0x08 => .ok (.packm (arg1Of c))
  | 0x09 => .ok (.packl (arg1Of c))
  | 0x0A => .ok .bcd5
  | 0x10 => .ok .run
  | 0x11 => .ok (.asmcw (tagOf c))
  | 0x12 => .ok .asmend
  | 0x1E => .ok .statclr
  | 0x1F => .ok .sreset
  | _ => .error (.illegalOp (opOf c))

/-- The instruction the decoder reads from a table row's word: a command is 32 bits, numbered as CMD numbers them. -/
def decodeTableWord (nbits w : Nat) : Option Instr :=
  if nbits ≤ 32 then (decode (BitVec.ofNat 32 (w % 2 ^ nbits))).toOption else none

/-- The format of 30_encoding.md R110: OP[31:24], ARG1[23:16], ARG0[15:0]. -/
def commandWord (op arg1 : BitVec 8) (arg0 : BitVec 16) : Word := op ++ arg1 ++ arg0

/-- The OP value of each command (30_encoding.md R112). -/
def opcode : Instr → BitVec 8
  | .nop => 0x00#8
  | .synd => 0x01#8
  | .parity => 0x02#8
  | .correct => 0x03#8
  | .classify => 0x04#8
  | .decode => 0x05#8
  | .packm _ => 0x08#8
  | .packl _ => 0x09#8
  | .bcd5 => 0x0A#8
  | .run => 0x10#8
  | .asmcw _ => 0x11#8
  | .asmend => 0x12#8
  | .statclr => 0x1E#8
  | .sreset => 0x1F#8

/-- The ARG1 field of each command; reserved fields are written 0 (30_encoding.md R113). -/
def arg1Field : Instr → BitVec 8
  | .packm g => g
  | .packl g => g
  | .nop | .synd | .parity | .correct | .classify | .decode | .bcd5 | .run | .asmcw _ | .asmend | .statclr
  | .sreset => 0#8

/-- The ARG0 field of each command; reserved fields are written 0 (30_encoding.md R113). -/
def arg0Field : Instr → BitVec 16
  | .asmcw tag => tag.setWidth 16
  | .nop | .synd | .parity | .correct | .classify | .decode | .packm _ | .packl _ | .bcd5 | .run | .asmend
  | .statclr | .sreset => 0#16

/-- The word of a command, as the assembler of 30_encoding.md R118 writes it. -/
def encode (i : Instr) : Word := commandWord (opcode i) (arg1Field i) (arg0Field i)

end Sys2Proof
end

