-- ==== Sys2Proof/Machine/Bitpacking.lean ====
section
/-! DEFINITION. The commands PARITY, PACKM, PACKL and BCD5 (40_bitpacking.md). -/

namespace Sys2Proof.Machine

/-- RES0 of PARITY: POK in bit 0, PEXP in bit 1 (40_bitpacking.md R142). -/
def parityResult (w : Word) : Word :=
  (0#30 ++ BitVec.ofBool (parityExp w) ++ BitVec.ofBool (parityOk w) : BitVec 32)

/-- PARITY (40_bitpacking.md R142). -/
def execParity (s : State) : Host.Outcome State Fault Refusal :=
  .next (accept s fun s => setResults (parityResult s.opa) 0#32 s)

/-- The group-width check of PACKM and PACKL, the last check of 30_encoding.md R117: outside 1..32 the command only raises
ERR_ARG (40_bitpacking.md R145). -/
def withWidth (g : BitVec 8) (s : State) (f : State → State) : State :=
  if LegalWidth g then f s else raiseCond .errArg s

/-- PACKM: the first g sequence bits of OPA, MSB-first (40_bitpacking.md R143). -/
def execPackm (g : BitVec 8) (s : State) : Host.Outcome State Fault Refusal :=
  .next (accept s fun s => withWidth g s fun s =>
    setResults (BitVec.ofNat 32 (packMsb (seqBits s.opa 0 g.toNat))) 0#32 s)

/-- PACKL: the first g sequence bits of OPA, LSB-first (40_bitpacking.md R146). -/
def execPackl (g : BitVec 8) (s : State) : Host.Outcome State Fault Refusal :=
  .next (accept s fun s => withWidth g s fun s =>
    setResults (BitVec.ofNat 32 (packLsb (seqBits s.opa 0 g.toNat))) 0#32 s)

/-- C_k and E_k, the character and the emit bit of digit k (40_bitpacking.md R149). -/
def bcdCharAt (opa : Word) (k : Nat) : BitVec 8 := bcdChar (bcdDigit opa k)

/-- E_k (40_bitpacking.md R149). -/
def bcdEmitAt (opa : Word) (k : Nat) : BitVec 1 := BitVec.ofBool (bcdEmit (bcdDigit opa k))

/-- RES0 of BCD5: the characters C_0 to C_3 (40_bitpacking.md R149). -/
def bcdLow (opa : Word) : Word :=
  (bcdCharAt opa 0 ++ bcdCharAt opa 1 ++ bcdCharAt opa 2 ++ bcdCharAt opa 3 : BitVec 32)

/-- RES1 of BCD5: the emit bits E_4 to E_0 and the character C_4 (40_bitpacking.md R149). -/
def bcdHigh (opa : Word) : Word :=
  (0#19 ++ bcdEmitAt opa 4 ++ bcdEmitAt opa 3 ++ bcdEmitAt opa 2 ++ bcdEmitAt opa 1 ++ bcdEmitAt opa 0
    ++ bcdCharAt opa 4 : BitVec 32)

/-- BCD5 (40_bitpacking.md R149). -/
def execBcd5 (s : State) : Host.Outcome State Fault Refusal :=
  .next (accept s fun s => setResults (bcdLow s.opa) (bcdHigh s.opa) s)

end Sys2Proof.Machine
end

