-- ==== Sys2Proof/Machine/Codeword.lean ====
section
/-! DEFINITION. The commands CLASSIFY and DECODE (42_frame_parser.md R203, R204). -/

namespace Sys2Proof.Machine

/-- CLASSIFY: the type of the raw word, with no correction (42_frame_parser.md R203). -/
def execClassify (s : State) : Host.Outcome State Fault Refusal :=
  .next (accept s fun s => setResults ((typeCode (typeOf s.opa)).setWidth 32) 0#32 s)

/-- RES1 of DECODE (42_frame_parser.md R204). -/
def decodeFlags (c : Correction) : Word :=
  (payloadOf c.w2 ++ 0#7 ++ typeCode (typeOf c.w2) ++ BitVec.ofBool c.valid ++ c.n : BitVec 32)

/-- DECODE: correction, then classification of the corrected word (42_frame_parser.md R204). -/
def execDecode (s : State) : Host.Outcome State Fault Refusal :=
  .next (accept s fun s => setResults (correctWord s.opa).w2 (decodeFlags (correctWord s.opa)) s)

end Sys2Proof.Machine
end

