-- ==== Sys2Proof/Machine/Control.lean ====
section
/-! DEFINITION. The control commands NOP, STATCLR and SRESET (44_control.md). -/

namespace Sys2Proof.Machine

/-- NOP does nothing, but is refused while BUSY like every command other than SRESET (44_control.md R270). -/
def execNop (s : State) : Host.Outcome State Fault Refusal := .next (accept s id)

/-- The six statistics counters take 0 (44_control.md R271). -/
def clearStats (s : State) : State :=
  { s with statBatch := 0#32, statCw := 0#32, statFix := 0#32, statBad := 0#32, statMsg := 0#32, statOrph := 0#32 }

/-- STATCLR (44_control.md R271). -/
def execStatclr (s : State) : Host.Outcome State Fault Refusal := .next (accept s clearStats)

/-- SRESET: accepted even while BUSY (44_control.md R272, 30_encoding.md R117). -/
def execSreset (s : State) : Host.Outcome State Fault Refusal := .next (resetBlock s)

end Sys2Proof.Machine
end

