-- ==== Sys2Proof/Machine/ErrorCorrection.lean ====
section
/-! DEFINITION. The commands SYND and CORRECT (41_error_correction.md). -/

namespace Sys2Proof.Machine

/-- SYND (41_error_correction.md R171). -/
def execSynd (s : State) : Host.Outcome State Fault Refusal :=
  .next (accept s fun s => setResults ((syn s.opa).setWidth 32) 0#32 s)

/-- RES1 of CORRECT (41_error_correction.md R176). -/
def correctFlags (c : Correction) : Word :=
  (0#6 ++ c.s0 ++ 0#10 ++ BitVec.ofBool c.pok ++ BitVec.ofBool c.pflip ++ BitVec.ofBool c.unc
    ++ BitVec.ofBool c.valid ++ c.n : BitVec 32)

/-- CORRECT (41_error_correction.md R176). -/
def execCorrect (s : State) : Host.Outcome State Fault Refusal :=
  .next (accept s fun s => setResults (correctWord s.opa).w2 (correctFlags (correctWord s.opa)) s)

end Sys2Proof.Machine
end

