-- ==== Sys2Proof/Machine/FrameParser.lean ====
section
/-! DEFINITION. The command RUN (42_frame_parser.md R206). Its engine steps are in Engine.lean. -/

namespace Sys2Proof.Machine

/-- The acceptance of RUN (42_frame_parser.md R206); BUSY becomes 1 because ESTATE leaves IDLE. -/
def startRun (s : State) : State :=
  { s with
    stSync := false, stDone := false, stNosync := false, stIncomplete := false
    runBatch := 0#32, scanP := 0, cwK := 0#4, estate := .start }

/-- RUN (42_frame_parser.md R206). -/
def execRun (s : State) : Host.Outcome State Fault Refusal := .next (accept s startRun)

end Sys2Proof.Machine
end

