-- ==== Sys2Proof/Machine/Dispatch.lean ====
section
/-! DEFINITION. The acceptance of a CMD write of each command (30_encoding.md R112, R117), one arm per constructor. -/

namespace Sys2Proof.Machine

def exec (i : Instr) (s : State) : Host.Outcome State Fault Refusal :=
  match i with
  | .nop => Sys2Proof.Machine.execNop s
  | .synd => Sys2Proof.Machine.execSynd s
  | .parity => Sys2Proof.Machine.execParity s
  | .correct => Sys2Proof.Machine.execCorrect s
  | .classify => Sys2Proof.Machine.execClassify s
  | .decode => Sys2Proof.Machine.execDecode s
  | .packm g => Sys2Proof.Machine.execPackm g s
  | .packl g => Sys2Proof.Machine.execPackl g s
  | .bcd5 => Sys2Proof.Machine.execBcd5 s
  | .run => Sys2Proof.Machine.execRun s
  | .asmcw tag => Sys2Proof.Machine.execAsmcw tag s
  | .asmend => Sys2Proof.Machine.execAsmend s
  | .statclr => Sys2Proof.Machine.execStatclr s
  | .sreset => Sys2Proof.Machine.execSreset s

end Sys2Proof.Machine
end

