-- ==== Sys2Proof/Machine/Engine.lean ====
section
/-! DEFINITION. The engine steps (42_frame_parser.md R207 to R214, 43_message_assembler.md R247, R248). Each is one atomic
transition; a step that needs more free FIFO entries than there are holds (R210). -/

namespace Sys2Proof.Machine

/-- START (42_frame_parser.md R207): close a message an earlier ASMCW sequence left open. -/
def stepStart (s : State) : Host.Outcome State Fault Refusal :=
  .next (whenFree s.openF.toNat s fun s => setEstate .scan (closeIfOpen .endOfInput s))

/-- The INCOMPLETE record (42_frame_parser.md R212, 43_message_assembler.md R250). -/
def incompleteRecord (p : Nat) : Record where
  hi := (5#4 ++ 0#28 : BitVec 32)
  lo := BitVec.ofNat 32 p

/-- The matching branch of SCAN with no complete batch after the preamble (42_frame_parser.md R211, R212). -/
def scanIncomplete (s : State) : State :=
  { raiseCond .incomplete (push (incompleteRecord s.scanP) s) with stSync := true, estate := .flush }

/-- The matching branch of SCAN with a complete batch after the preamble (42_frame_parser.md R211). -/
def scanMatch (s : State) : State := { s with stSync := true, cwK := 0#4, estate := .batch }

/-- SCAN (42_frame_parser.md R208, R211, R212). -/
def stepScan (s : State) : Host.Outcome State Fault Refusal :=
  if s.len.toNat < s.scanP + cwBits then .next (setEstate .flush s)
  else match window s.ibb s.scanP with
    | none => .fault .unwrittenWindow
    | some w =>
      if w ≠ preambleWord then .next { s with scanP := s.scanP + 1 }
      else if s.scanP + cwBits + batchBits ≤ s.len.toNat then .next (scanMatch s)
      else .next (whenFree 1 s scanIncomplete)

/-- What BATCH does after the codeword step: the next codeword, or the end of the batch (42_frame_parser.md R213). -/
def advanceBatch (s : State) : State :=
  if s.cwK = 15#4 then
    { s with runBatch := s.runBatch + 1#32, statBatch := s.statBatch + 1#32, scanP := s.scanP + 1, estate := .scan }
  else { s with cwK := s.cwK + 1#4 }

/-- The buffer bit at which codeword K of the batch after the preamble at P starts (10_state.md R36). -/
def codewordPos (s : State) : Nat := s.scanP + cwBits + cwBits * s.cwK.toNat

/-- BATCH (42_frame_parser.md R213). -/
def stepBatch (s : State) : Host.Outcome State Fault Refusal :=
  match window s.ibb (codewordPos s) with
  | none => .fault .unwrittenWindow
  | some raw => .next (whenFree (need raw s) s fun s => advanceBatch (codewordStep raw s.cwK s))

/-- The RUN_DONE record (42_frame_parser.md R214, 43_message_assembler.md R250). -/
def runDoneRecord (incomplete nosync : Bool) (batches : Word) : Record where
  hi := (6#4 ++ 0#26 ++ BitVec.ofBool incomplete ++ BitVec.ofBool nosync : BitVec 32)
  lo := batches

/-- The end of a RUN, after the open message has been closed (42_frame_parser.md R214). -/
def finishRun (s : State) : State :=
  { push (runDoneRecord s.stIncomplete (!s.stSync) s.runBatch) s with
    stNosync := !s.stSync, stDone := true, estate := .idle }

/-- FLUSH (42_frame_parser.md R214). -/
def stepFlush (s : State) : Host.Outcome State Fault Refusal :=
  .next (whenFree (1 + s.openF.toNat) s fun s => finishRun (closeIfOpen .endOfInput s))

/-- ASM (43_message_assembler.md R247). -/
def stepAsm (s : State) : Host.Outcome State Fault Refusal :=
  .next (whenFree (need s.jobW s) s fun s => setEstate .idle (codewordStep s.jobW s.jobI s))

/-- AEND (43_message_assembler.md R248). -/
def stepAend (s : State) : Host.Outcome State Fault Refusal :=
  .next (whenFree s.openF.toNat s fun s => setEstate .idle (closeIfOpen .endOfInput s))

/-- The engine's turn: ESTATE selects the only candidate step; with ESTATE = IDLE there is none
(42_frame_parser.md R209, 60_exceptions.md R304). -/
def engineStep (s : State) : Host.Outcome State Fault Refusal :=
  match s.estate with
  | .idle => .next s
  | .start => stepStart s
  | .scan => stepScan s
  | .batch => stepBatch s
  | .flush => stepFlush s
  | .asm => stepAsm s
  | .aend => stepAend s

end Sys2Proof.Machine
end

