-- ==== Sys2Proof/Machine/Port.lean ====
section
/-! DEFINITION. The host port: the register map (10_state.md R40 to R51), its reads and writes (20_memory.md R80, R86, R87,
R91), and the events of the agenda. -/

namespace Sys2Proof.Machine

/-- The registers of the port (10_state.md R40), and the unmapped offsets (R51). -/
inductive Reg
  | id
  | cmd
  | status
  | opa
  | res0
  | res1
  | len
  | bufaddr
  | bufdata
  | outHi
  | outLo
  | statBatch
  | statCw
  | statFix
  | statBad
  | statMsg
  | statOrph
  | param
  | unmapped
deriving DecidableEq, Repr

/-- The register at byte address A[6:0]: A[6:2] is decoded, A[1:0] is ignored (10_state.md R40, 20_memory.md R80). -/
def regAt (addr : BitVec 7) : Reg :=
  match addr.toNat / 4 with
  | 0 => .id
  | 1 => .cmd
  | 2 => .status
  | 3 => .opa
  | 4 => .res0
  | 5 => .res1
  | 6 => .len
  | 7 => .bufaddr
  | 8 => .bufdata
  | 9 => .outHi
  | 10 => .outLo
  | 11 => .statBatch
  | 12 => .statCw
  | 13 => .statFix
  | 14 => .statBad
  | 15 => .statMsg
  | 16 => .statOrph
  | 17 => .param
  | _ => .unmapped

/-- The byte offset of each register (10_state.md R40); an unmapped one stands for 0x48. -/
def offsetOf : Reg → BitVec 7
  | .id => 0x00#7
  | .cmd => 0x04#7
  | .status => 0x08#7
  | .opa => 0x0C#7
  | .res0 => 0x10#7
  | .res1 => 0x14#7
  | .len => 0x18#7
  | .bufaddr => 0x1C#7
  | .bufdata => 0x20#7
  | .outHi => 0x24#7
  | .outLo => 0x28#7
  | .statBatch => 0x2C#7
  | .statCw => 0x30#7
  | .statFix => 0x34#7
  | .statBad => 0x38#7
  | .statMsg => 0x3C#7
  | .statOrph => 0x40#7
  | .param => 0x44#7
  | .unmapped => 0x48#7

/-- PARAM (10_state.md R50). -/
def paramWord (p : Params) : Word :=
  (0#19 ++ BitVec.ofNat 5 p.log2BufWords ++ BitVec.ofNat 8 p.fifoDepth : BitVec 32)

/-- BUFADDR <- (BUFADDR + 1) mod BUF_WORDS (10_state.md R45, 20_memory.md R86, R87). -/
def bumpBufaddr (s : State) : State :=
  { s with bufaddr := BitVec.ofNat 32 ((s.bufaddr.toNat + 1) % s.params.bufWords) }

/-- A BUFDATA read (20_memory.md R85, R86): a fault while the word is unwritten. -/
def readBufdata (s : State) : Host.Outcome State Fault Refusal :=
  match readWord s.ibb s.bufaddr.toNat with
  | none => .fault .unwrittenBufdata
  | some v => .next (bumpBufaddr (answer v s))

/-- An OUT_HI read: the high word of the head record, or 0; it removes nothing (10_state.md R47, 20_memory.md R91). -/
def readOutHi (s : State) : State :=
  match s.fifo with
  | [] => answer 0#32 s
  | r :: _ => answer r.hi s

/-- An OUT_LO read: the low word of the head record, which it removes, or 0 (10_state.md R48, 20_memory.md R91). -/
def readOutLo (s : State) : State :=
  match s.fifo with
  | [] => answer 0#32 s
  | r :: _ => pop (answer r.lo s)

/-- A read of a register (10_state.md R40); CMD and the unmapped offsets read 0 (R42, R51). 60_exceptions.md R303 has a
program read RUNBATCH at any time, but R40 gives it no offset: only the RUN_DONE record shows it (DEDUCED, log 14). -/
def readReg (r : Reg) (s : State) : Host.Outcome State Fault Refusal :=
  match r with
  | .id => .next (answer idValue s)
  | .cmd => .next (answer 0#32 s)
  | .status => .next (answer (statusWord s) s)
  | .opa => .next (answer s.opa s)
  | .res0 => .next (answer s.res0 s)
  | .res1 => .next (answer s.res1 s)
  | .len => .next (answer s.len s)
  | .bufaddr => .next (answer s.bufaddr s)
  | .bufdata => readBufdata s
  | .outHi => .next (readOutHi s)
  | .outLo => .next (readOutLo s)
  | .statBatch => .next (answer s.statBatch s)
  | .statCw => .next (answer s.statCw s)
  | .statFix => .next (answer s.statFix s)
  | .statBad => .next (answer s.statBad s)
  | .statMsg => .next (answer s.statMsg s)
  | .statOrph => .next (answer s.statOrph s)
  | .param => .next (answer (paramWord s.params) s)
  | .unmapped => .next (answer 0#32 s)

/-- A CMD write with an illegal OP (30_encoding.md R114, R117): while BUSY it is refused like any command. -/
def illegalCommand (s : State) : State := accept s (raiseCond .errIllegal)

/-- A write of c to CMD (30_encoding.md R117). -/
def writeCmd (c : Word) (s : State) : Host.Outcome State Fault Refusal :=
  match decode c with
  | .ok i => exec i s
  | .error _ => .next (illegalCommand s)

/-- A write of v to LEN: min(v, BUF_BITS), refused while BUSY (10_state.md R44). -/
def writeLen (v : Word) (s : State) : State :=
  accept s fun s => { s with len := BitVec.ofNat 32 (min v.toNat s.params.bufBits) }

/-- A write of v to BUFADDR: v mod BUF_WORDS, accepted while BUSY (10_state.md R45). -/
def writeBufaddr (v : Word) (s : State) : State :=
  { s with bufaddr := BitVec.ofNat 32 (v.toNat % s.params.bufWords) }

/-- A write of v to BUFDATA, refused while BUSY (20_memory.md R87). -/
def writeBufdata (v : Word) (s : State) : State :=
  accept s fun s => bumpBufaddr { s with ibb := writeWord s.ibb s.bufaddr.toNat v }

/-- A write to a register (10_state.md R40); writes to read-only registers and unmapped offsets are ignored (R51). -/
def writeReg (r : Reg) (v : Word) (s : State) : Host.Outcome State Fault Refusal :=
  match r with
  | .cmd => writeCmd v s
  | .status => .next (writeStatus v s)
  | .opa => .next { s with opa := v }
  | .len => .next (writeLen v s)
  | .bufaddr => .next (writeBufaddr v s)
  | .bufdata => .next (writeBufdata v s)
  | .id => .next s
  | .res0 => .next s
  | .res1 => .next s
  | .outHi => .next s
  | .outLo => .next s
  | .statBatch => .next s
  | .statCw => .next s
  | .statFix => .next s
  | .statBad => .next s
  | .statMsg => .next s
  | .statOrph => .next s
  | .param => .next s
  | .unmapped => .next s

/-- One access of the host port (20_memory.md R80). -/
def hostAccess (acc : HostAccess) (s : State) : Host.Outcome State Fault Refusal :=
  match acc with
  | .read addr => readReg (regAt addr) s
  | .write addr v => writeReg (regAt addr) v s

/-- A cycle with rst = 1: the block resets, an attempted access has no effect, and a read returns 0
(70_reset_and_hazards.md R320; log 12). -/
def rstCycle (attempted : Option HostAccess) (s : State) : State :=
  match attempted with
  | some (.read _) => answer 0#32 (resetBlock s)
  | some (.write _ _) => resetBlock s
  | none => resetBlock s

/-- Put events before the rest of the agenda: how the host's loops go on. -/
def schedule (es : List PortEvent) (s : State) : State := { s with agenda := es ++ s.agenda }

/-- One turn of `poll REG, mask, v` (30_encoding.md R119): a read; when the value does not match, the engine takes a turn
and the poll repeats (log 7). -/
def pollTurn (addr : BitVec 7) (mask v : Word) (s : State) : Host.Outcome State Fault Refusal :=
  match hostAccess (.read addr) s with
  | .next t => if t.rdata &&& mask = v then .next t else .next (schedule [.engine, .poll addr mask v] t)
  | .fault r => .fault r
  | .refused r => .refused r

/-- The two reads of `pop` (30_encoding.md R120). -/
def popReads : List PortEvent := [.host (.read (offsetOf .outHi)), .host (.read (offsetOf .outLo))]

/-- One turn of `drain` (30_encoding.md R120): a read of STATUS; while OUT_NE = 1, a pop and again. -/
def drainTurn (s : State) : State :=
  let t := answer (statusWord s) s
  if t.rdata.getLsbD 8 then schedule (popReads ++ [.drain]) t else t

/-- One turn of the loop of `decodeall` (30_encoding.md R120): a read of STATUS; pop whenever OUT_NE = 1, wait while
BUSY = 1 (log 7). -/
def drainUntilDoneTurn (s : State) : State :=
  let t := answer (statusWord s) s
  if t.rdata.getLsbD 8 then schedule (popReads ++ [.drainUntilDone]) t
  else if t.rdata.getLsbD 0 then schedule [.engine, .drainUntilDone] t
  else t

/-- What an event of the agenda does; s is the state with the event already taken off the agenda. -/
def portEvent (e : PortEvent) (s : State) : Host.Outcome State Fault Refusal :=
  match e with
  | .host acc => hostAccess acc s
  | .engine => engineStep s
  | .rst attempted => .next (rstCycle attempted s)
  | .poll addr mask v => pollTurn addr mask v s
  | .drain => .next (drainTurn s)
  | .drainUntilDone => .next (drainUntilDoneTurn s)

end Sys2Proof.Machine
end

