-- ==== Sys2Proof/Machine/Step.lean ====
section
/-! DEFINITION. One step of the block: the next event of the agenda, or the engine when the agenda is empty
(20_memory.md R81, 42_frame_parser.md R210; log 1). -/

namespace Sys2Proof.Machine

/-- One transition: the agent the agenda names moves, and the engine when nothing is pending. -/
def step (s : State) : Host.Outcome State Fault Refusal :=
  match s.agenda with
  | [] => engineStep s
  | e :: rest => portEvent e { s with agenda := rest }

/-- s with a CMD write of the command word w as the next access of the host. The block fetches no instructions
(10_state.md R35): a command runs when the host writes it to CMD (R42), so this is where the next step finds it. -/
def State.withFetchWord (s : State) (nbits w : Nat) : State :=
  { s with agenda := .host (.write (offsetOf .cmd) (BitVec.ofNat 32 (w % 2 ^ nbits))) :: s.agenda }

end Sys2Proof.Machine
end

