-- ==== Sys2Proof/Machine/HostProgram.lean ====
section
/-! DEFINITION. The host's side of the port: assembler lines, host primitives and pseudo-instructions (30_encoding.md R118
to R120), as events of the agenda, and the base address (20_memory.md R95). -/

namespace Sys2Proof.Machine

/-- The assembler syntax of 30_encoding.md R118: the word of one line `mnemonic [operand]`, none for a line the assembler
refuses. -/
def assembleLine (mnemonic : String) (operand : Option Nat) : Option Word :=
  match mnemonic, operand with
  | "nop", none => some (encode .nop)
  | "synd", none => some (encode .synd)
  | "parity", none => some (encode .parity)
  | "correct", none => some (encode .correct)
  | "classify", none => some (encode .classify)
  | "decode", none => some (encode .decode)
  | "packm", some g => if 1 ≤ g ∧ g ≤ 32 then some (encode (.packm (BitVec.ofNat 8 g))) else none
  | "packl", some g => if 1 ≤ g ∧ g ≤ 32 then some (encode (.packl (BitVec.ofNat 8 g))) else none
  | "bcd5", none => some (encode .bcd5)
  | "run", none => some (encode .run)
  | "asmcw", none => some (encode (.asmcw 0#4))
  | "asmcw", some i => if i ≤ 15 then some (encode (.asmcw (BitVec.ofNat 4 i))) else none
  | "asmend", none => some (encode .asmend)
  | "statclr", none => some (encode .statclr)
  | "sreset", none => some (encode .sreset)
  | _, _ => none

/-- The word the assembler writes for a command, none for one it refuses: PACKM and PACKL with g outside 1..32
(30_encoding.md R118). Such a word can only be written as a raw `wr CMD, value` (R119). -/
def assembleCommand (i : Instr) : Option Word := if i.WellFormed then some (encode i) else none

/-- A line of a host program: a host primitive (30_encoding.md R119) or a pseudo-instruction (R120). -/
inductive HostLine
  | wr (r : Reg) (v : Word)
  | rd (r : Reg)
  | poll (r : Reg) (mask v : Word)
  | opa (v : Word)
  | command (i : Instr)
  | wait
  | load (a : Word) (ws : List Word)
  | len (n : Word)
  | feed (w : Word) (i : BitVec 4)
  | pop
  | drain
  | clrerr
  | decodeall
deriving DecidableEq, Repr

/-- The write access of `wr REG, v` (30_encoding.md R119). -/
def wrEvent (r : Reg) (v : Word) : PortEvent := .host (.write (offsetOf r) v)

/-- `wait`: poll STATUS, 0x00000001, 0 (30_encoding.md R120). -/
def waitEvent : PortEvent := .poll (offsetOf .status) 0x00000001#32 0#32

/-- The expansion of a line into events of the agenda (30_encoding.md R119, R120), none for a line the assembler refuses
(R118). -/
def expandLine : HostLine → Option (List PortEvent)
  | .wr r v => some [wrEvent r v]
  | .rd r => some [.host (.read (offsetOf r))]
  | .poll r mask v => some [.poll (offsetOf r) mask v]
  | .opa v => some [wrEvent .opa v]
  | .command i => (assembleCommand i).map fun w => [wrEvent .cmd w]
  | .wait => some [waitEvent]
  | .load a ws => some (wrEvent .bufaddr a :: ws.map (wrEvent .bufdata))
  | .len n => some [wrEvent .len n]
  | .feed w i => (assembleCommand (.asmcw i)).map fun c => [wrEvent .opa w, wrEvent .cmd c, waitEvent]
  | .pop => some popReads
  | .drain => some [.drain]
  | .clrerr => some [wrEvent .status 0x37000000#32]
  | .decodeall => (assembleCommand .run).map fun c => [wrEvent .cmd c, .drainUntilDone]

/-- The events of a program, one line after another; none when the assembler refuses a line (30_encoding.md R118). -/
def expandProgram : List HostLine → Option (List PortEvent)
  | [] => some []
  | l :: ls => match expandLine l, expandProgram ls with
    | some es, some rest => some (es ++ rest)
    | _, _ => none

/-- A state in which the host goes on to run a program, none for a program the assembler refuses. -/
def withProgram (lines : List HostLine) (s : State) : Option State :=
  (expandProgram lines).map fun es => { s with agenda := s.agenda ++ es }

/-- The port address A[6:0] of a bus address in the block's 128-byte window at BASE, a platform parameter aligned to 128
bytes (20_memory.md R95, log 10); none outside the window. -/
def portAddrOf (base busAddr : Nat) : Option (BitVec 7) :=
  if base ≤ busAddr ∧ busAddr < base + 128 then some (BitVec.ofNat 7 (busAddr - base)) else none

end Sys2Proof.Machine
end

