-- ==== Sys2Proof/Machine/HostView.lean ====
section
/-! DEFINITION. What a host derives from the block's results by the rules of the spec: longer packings
(40_bitpacking.md R144), BCD rendering (R150), 7-bit groups (R151), address fields (42_frame_parser.md R201) and messages
(43_message_assembler.md R251). The step uses none of it (log 11). -/

namespace Sys2Proof.Machine

/-- The consecutive groups of g bits of a sequence under a packing; none for a partial group, which a model must refuse
(40_bitpacking.md R144, 93_implementation_defined.md I5). -/
def packGroups (pack : List Bool → Nat) (g : Nat) (bits : List Bool) : Option (List Nat) :=
  if g = 0 ∨ bits.length % g ≠ 0 then none
  else some ((List.range (bits.length / g)).map fun k => pack ((bits.drop (g * k)).take g))

/-- The 20 payload bits of a codeword, in sequence order (42_frame_parser.md R200). -/
def payloadBits (w : Word) : List Bool := seqBits w 1 20

/-- The characters of one payload codeword: those of its five digits with emit bit 1 (40_bitpacking.md R150). -/
def bcdChars (w : Word) : List (BitVec 8) :=
  let digits := (List.range 5).map fun k => bcdDigit ((payloadOf w).setWidth 32) k
  (digits.filter bcdEmit).map bcdChar

/-- The BCD rendering of a message's payload codewords (40_bitpacking.md R150). -/
def renderBcd (payload : List Word) : List (BitVec 8) := payload.flatMap bcdChars

/-- The 7-bit codes of a message's concatenated payload, LSB-first (40_bitpacking.md R151); none when trailing bits fill no
group (93_implementation_defined.md I5). -/
def alphaCodes (payload : List Word) : Option (List Nat) := packGroups packLsb 7 (payload.flatMap payloadBits)

/-- ADDR18 = W[30:13] (42_frame_parser.md R201). -/
def addr18 (w : Word) : BitVec 18 := w.extractLsb' 13 18

/-- FUNC2 = W[12:11] (42_frame_parser.md R201). -/
def func2 (w : Word) : BitVec 2 := w.extractLsb' 11 2

/-- The frame of a codeword of a RUN: K div 2 (42_frame_parser.md R201). -/
def frameOf (cwi : BitVec 4) : Nat := cwi.toNat / 2

/-- The record kind hi[31:28] (43_message_assembler.md R250). -/
def recordKind (r : Record) : BitVec 4 := r.hi.extractLsb' 28 4

/-- The kinds the block pushes, 1 to 6 (43_message_assembler.md R250). -/
abbrev legalKind (r : Record) : Prop := 1 ≤ (recordKind r).toNat ∧ (recordKind r).toNat ≤ 6

/-- A message as the host reconstructs it (43_message_assembler.md R251). -/
structure Message where
  recipient : Word
  payload : List Word
  reason : BitVec 2
  valid : Bool
  count : BitVec 16
deriving DecidableEq, Repr

/-- The message a MSG_CLOSE record completes (43_message_assembler.md R250, R251). -/
def closedMessage (recipient : Word) (payload : List Word) (r : Record) : Message where
  recipient := recipient
  payload := payload
  reason := r.hi.extractLsb' 26 2
  valid := r.hi.getLsbD 21
  count := r.hi.extractLsb' 0 16

/-- The messages of a record stream; the first argument is the recipient and the payload so far of the open message. None
for a record of a reserved kind (93_implementation_defined.md I8), one that closes or extends no message, or one that opens
a message while another is open (R252). -/
def messagesFrom : Option (Word × List Word) → List Record → Option (List Message)
  | _, [] => some []
  | cur, r :: rs =>
    match (recordKind r).toNat, cur with
    | 1, none => messagesFrom (some (r.lo, [])) rs
    | 2, some (a, ps) => messagesFrom (some (a, ps ++ [r.lo])) rs
    | 3, some (a, ps) => (messagesFrom none rs).map fun ms => closedMessage a ps r :: ms
    | 4, _ => messagesFrom cur rs
    | 5, _ => messagesFrom cur rs
    | 6, _ => messagesFrom cur rs
    | _, _ => none

/-- The messages of a record stream (43_message_assembler.md R251). -/
def messagesOf (rs : List Record) : Option (List Message) := messagesFrom none rs

end Sys2Proof.Machine
end

