-- ==== Sys2Proof/Safety.lean ====
section
/-! DEFINITION. What a well-formed state of the block is, when a RUN cannot fault, how far a RUN is from its end, and what
a RUN computes (42_frame_parser.md R205, R217), in the terms the statements use. -/

namespace Sys2Proof.Machine

/-! ### Invariants -/

/-- Every IBB word is written whole or not at all (20_memory.md R85), and no byte lies outside the buffer (R83). -/
def WholeWords (s : State) : Prop :=
  ∀ a, (readByte s.ibb a).isSome = (readWord s.ibb (a / 4)).isSome ∧
    ((readByte s.ibb a).isSome → a < 4 * s.params.bufWords)

/-- The registers and the FIFO hold what the spec says they can hold, and the buffer's list is canonical. -/
structure Inv (s : State) : Prop where
  /-- 00_scope.md R6. -/
  params : s.params.wf
  /-- The canonical form of the buffer (log 5). -/
  ibbWf : Memory.wf s.ibb
  /-- 20_memory.md R83, R85. -/
  ibbWhole : WholeWords s
  /-- 20_memory.md R89: at most FIFO_DEPTH records. -/
  fifoFits : s.fifo.length ≤ s.params.fifoDepth
  /-- 43_message_assembler.md R250: only records of the kinds 1 to 6 are stored. -/
  fifoKinds : ∀ r ∈ s.fifo, legalKind r
  /-- 10_state.md R44: LEN <= BUF_BITS. -/
  lenLegal : s.len.toNat ≤ s.params.bufBits
  /-- 10_state.md R45: BUFADDR < BUF_WORDS. -/
  bufaddrLegal : s.bufaddr.toNat < s.params.bufWords
  /-- 10_state.md R36: P <= BUF_BITS. -/
  scanLegal : s.scanP ≤ s.params.bufBits
  /-- 42_frame_parser.md R211: a batch in progress lies inside LEN. -/
  batchFits : s.estate = .batch → s.scanP + cwBits + batchBits ≤ s.len.toNat

/-- The engine is working on a RUN. -/
def running (s : State) : Prop :=
  s.estate = .start ∨ s.estate = .scan ∨ s.estate = .batch ∨ s.estate = .flush

/-- What the run flags of STATUS say of one another (10_state.md R43, 42_frame_parser.md R206, R211, R212, R214). -/
structure RunFlagsInv (s : State) : Prop where
  /-- DONE and NOSYNC are set by FLUSH only, and RUN clears them. -/
  clearWhileRunning : running s → s.stDone = false ∧ s.stNosync = false
  /-- NOSYNC and SYNC exclude each other. -/
  nosyncNotSync : s.stNosync = true → s.stSync = false
  /-- An incomplete batch begins with a preamble match. -/
  incompleteSync : s.stIncomplete = true → s.stSync = true
  /-- NOSYNC comes with DONE. -/
  nosyncDone : s.stNosync = true → s.stDone = true
  /-- A batch begins with a preamble match. -/
  batchSync : s.estate = .batch → s.stSync = true

/-- Every word that holds a bit RUN reads is written (70_reset_and_hazards.md R323, R324). -/
def Loaded (s : State) : Prop := ∀ i, 32 * i < s.len.toNat → (readWord s.ibb i).isSome

/-! ### The distance of a RUN from its end (42_frame_parser.md R217) -/

/-- A bound on the engine steps left from the SCAN step at position p, for a transmission of L bits. -/
def scanFuel (L p : Nat) : Nat := max 1 (L - 30 - p) + 16 * (L - 543 - p) + 1

/-- A bound on the engine steps left, none of them a hold. -/
def runFuel (s : State) : Nat :=
  match s.estate with
  | .idle => 0
  | .asm => 1
  | .aend => 1
  | .flush => 1
  | .start => 1 + scanFuel s.len.toNat s.scanP
  | .scan => scanFuel s.len.toNat s.scanP
  | .batch => (16 - s.cwK.toNat) + scanFuel s.len.toNat (s.scanP + 1)

/-! ### What a RUN computes (42_frame_parser.md R205) -/

/-- M: the positions p, 0 <= p <= L - 32, with Window(p) = PREAMBLE, in increasing order. -/
def runMatches (m : List Host.Cell) (L : Nat) : List Nat :=
  (List.range (L - 31)).filter fun p => window m p == some preambleWord

/-- The batches: the members p of M with p + 544 <= L. -/
def runBatches (m : List Host.Cell) (L : Nat) : List Nat :=
  (runMatches m L).filter fun p => decide (p + cwBits + batchBits ≤ L)

/-- p*: the first p in M with p + 544 > L, if any. -/
def runIncomplete (m : List Host.Cell) (L : Nat) : Option Nat :=
  (runMatches m L).find? fun p => decide (L < p + cwBits + batchBits)

/-- The codewords of the batch after the preamble at p, each with its index. -/
def batchCodewords (m : List Host.Cell) (p : Nat) : List (Word × BitVec 4) :=
  (List.range batchCws).filterMap fun k =>
    (window m (p + cwBits + cwBits * k)).map fun w => (w, BitVec.ofNat 4 k)

/-- The codeword stream of a RUN. -/
def runStream (m : List Host.Cell) (L : Nat) : List (Word × BitVec 4) :=
  (runBatches m L).flatMap (batchCodewords m)

/-- The assembler over a codeword stream (43_message_assembler.md R240). -/
def assembleStream (ws : List (Word × BitVec 4)) (s : State) : State :=
  ws.foldl (fun s w => codewordStep w.1 w.2 s) s

/-- The INCOMPLETE report of a RUN, if p* exists (42_frame_parser.md R205, R212). -/
def reportIncomplete (p : Option Nat) (s : State) : State :=
  match p with
  | none => s
  | some p => push (incompleteRecord p) s

/-- What a RUN does to the assembler slot, the counters and the FIFO: it closes a message left open, assembles the whole
codeword stream, reports an incomplete batch, and ends the assembler's input (42_frame_parser.md R205, R207, R214). -/
def runAssembly (s : State) : State :=
  closeIfOpen .endOfInput
    (reportIncomplete (runIncomplete s.ibb s.len.toNat)
      (assembleStream (runStream s.ibb s.len.toNat) (closeIfOpen .endOfInput s)))

/-- The number of complete batches of a RUN, as the 32-bit count that RUNBATCH holds (10_state.md R53). -/
def runBatchCount (s : State) : Word := BitVec.ofNat 32 (runBatches s.ibb s.len.toNat).length

/-- The RUN_DONE record of a RUN (42_frame_parser.md R205, R214). -/
def runFinalRecord (s : State) : Record :=
  runDoneRecord (runIncomplete s.ibb s.len.toNat).isSome (runMatches s.ibb s.len.toNat).isEmpty (runBatchCount s)

end Sys2Proof.Machine
end

