-- ==== Sys2Proof/Certificates/Slice0/Obligations.lean ====
section
/-! DEFINITION. The statements for the provers, each a proposition about the machine; OBLIGATIONS.json lists them. -/

open Sys2Proof Sys2Proof.Machine

/-! ### Encoding -/

/-- No bit of a command's encoding is dropped (30_encoding.md R110, R112). -/
def Obligations.DecodeOfEncodeIsTheInstruction : Prop :=
  ∀ i : Instr, decode (encode i) = .ok i

/-- Words written out from the opcode map of 30_encoding.md R112. -/
def Obligations.DecodeReadsTheWrittenOutWords : Prop :=
  decode 0x00000000#32 = .ok .nop ∧ decode 0x05000000#32 = .ok .decode ∧ decode 0x08080000#32 = .ok (.packm 8#8) ∧
  decode 0x09200000#32 = .ok (.packl 32#8) ∧ decode 0x10000000#32 = .ok .run ∧
  decode 0x1100000F#32 = .ok (.asmcw 15#4) ∧ decode 0x1F000000#32 = .ok .sreset ∧
  decode 0x06000000#32 = .error (.illegalOp 0x06#8)

/-- The command table of the assembler (30_encoding.md R118), and the operands it refuses. -/
def Obligations.AssemblerWritesTheTableOfMnemonics : Prop :=
  assembleLine "nop" none = some 0x00000000#32 ∧ assembleLine "synd" none = some 0x01000000#32 ∧
  assembleLine "parity" none = some 0x02000000#32 ∧ assembleLine "correct" none = some 0x03000000#32 ∧
  assembleLine "classify" none = some 0x04000000#32 ∧ assembleLine "decode" none = some 0x05000000#32 ∧
  assembleLine "bcd5" none = some 0x0A000000#32 ∧ assembleLine "run" none = some 0x10000000#32 ∧
  assembleLine "asmcw" none = some 0x11000000#32 ∧ assembleLine "asmend" none = some 0x12000000#32 ∧
  assembleLine "statclr" none = some 0x1E000000#32 ∧ assembleLine "sreset" none = some 0x1F000000#32 ∧
  (∀ g, 1 ≤ g → g ≤ 32 →
    assembleLine "packm" (some g) = some (0x08000000#32 ||| (BitVec.ofNat 32 g <<< 16)) ∧
    assembleLine "packl" (some g) = some (0x09000000#32 ||| (BitVec.ofNat 32 g <<< 16))) ∧
  (∀ i, i ≤ 15 → assembleLine "asmcw" (some i) = some (0x11000000#32 ||| BitVec.ofNat 32 i)) ∧
  (∀ g, g < 1 ∨ 32 < g → assembleLine "packm" (some g) = none ∧ assembleLine "packl" (some g) = none) ∧
  (∀ i, 15 < i → assembleLine "asmcw" (some i) = none)

/-- Reserved fields are ignored, written 0 by the assembler, and ARG1 of PACKM and PACKL is never one
(30_encoding.md R113). -/
def Obligations.ReservedFieldsAreIgnored : Prop :=
  (∀ i : Instr, (∀ g, i ≠ .packm g) → (∀ g, i ≠ .packl g) → (∀ t, i ≠ .asmcw t) →
    ∀ (a1 : BitVec 8) (a0 : BitVec 16), decode (commandWord (opcode i) a1 a0) = .ok i) ∧
  (∀ (g : BitVec 8) (a0 : BitVec 16), decode (commandWord 0x08#8 g a0) = .ok (.packm g)) ∧
  (∀ (g : BitVec 8) (a0 : BitVec 16), decode (commandWord 0x09#8 g a0) = .ok (.packl g)) ∧
  (∀ (a1 : BitVec 8) (high : BitVec 12) (tag : BitVec 4),
    decode (commandWord 0x11#8 a1 (high ++ tag)) = .ok (.asmcw tag)) ∧
  (∀ (g : BitVec 8) (a0 : BitVec 16) (s : State), busy s = false → ¬ (1 ≤ g.toNat ∧ g.toNat ≤ 32) →
    writeCmd (commandWord 0x08#8 g a0) s = .next { s with errArg := true } ∧
    writeCmd (commandWord 0x09#8 g a0) s = .next { s with errArg := true }) ∧
  (∀ i : Instr, (∀ g, i ≠ .packm g) → (∀ g, i ≠ .packl g) → arg1Of (encode i) = 0#8) ∧
  (∀ i : Instr, (∀ t, i ≠ .asmcw t) → (encode i).extractLsb' 0 16 = 0#16) ∧
  (∀ t, (encode (.asmcw t)).extractLsb' 4 12 = 0#12)

/-- The undefined OP values, and what a CMD write of one does while BUSY = 0 (30_encoding.md R114). -/
def Obligations.IllegalOpcodesOnlyRaiseErrIllegal : Prop :=
  ∀ c : Word,
    ((∃ r, decode c = .error r) ↔
      ((opOf c).toNat = 0x06 ∨ (opOf c).toNat = 0x07 ∨ (0x0B ≤ (opOf c).toNat ∧ (opOf c).toNat ≤ 0x0F) ∨
        (0x13 ≤ (opOf c).toNat ∧ (opOf c).toNat ≤ 0x1D) ∨ 0x20 ≤ (opOf c).toNat)) ∧
    ((∃ r, decode c = .error r) → ∀ s, busy s = false →
      hostAccess (.write 0x04#7 c) s = .next { s with errIllegal := true })

/-- The branches of a CMD write, in the order of 30_encoding.md R117. -/
def Obligations.CmdWriteFollowsTheAcceptanceOrder : Prop :=
  ∀ (c : Word) (s : State),
    ((opOf c).toNat = 0x1F → hostAccess (.write 0x04#7 c) s = exec .sreset s) ∧
    ((opOf c).toNat ≠ 0x1F → busy s = true →
      hostAccess (.write 0x04#7 c) s = .next { s with errBusy := true }) ∧
    ((opOf c).toNat ≠ 0x1F → busy s = false →
      ((opOf c).toNat ∉ [0x00, 0x01, 0x02, 0x03, 0x04, 0x05, 0x08, 0x09, 0x0A, 0x10, 0x11, 0x12, 0x1E, 0x1F] →
        hostAccess (.write 0x04#7 c) s = .next { s with errIllegal := true }) ∧
      ((opOf c).toNat ∈ [0x08, 0x09] → ¬ (1 ≤ (arg1Of c).toNat ∧ (arg1Of c).toNat ≤ 32) →
        hostAccess (.write 0x04#7 c) s = .next { s with errArg := true }) ∧
      ((opOf c).toNat ∈ [0x00, 0x01, 0x02, 0x03, 0x04, 0x05, 0x08, 0x09, 0x0A, 0x10, 0x11, 0x12, 0x1E] →
        ((opOf c).toNat ∈ [0x08, 0x09] → 1 ≤ (arg1Of c).toNat ∧ (arg1Of c).toNat ≤ 32) →
        ∃ i, decode c = .ok i ∧ opcode i = opOf c ∧ hostAccess (.write 0x04#7 c) s = exec i s))

/-! ### The unit commands -/

/-- NOP (44_control.md R270). -/
def Obligations.NopDoesNothing : Prop :=
  (∀ s, busy s = false → exec .nop s = .next s) ∧
  (∀ s, busy s = true → exec .nop s = .next { s with errBusy := true }) ∧
  (∀ (a1 : BitVec 8) (a0 : BitVec 16), decode (commandWord 0x00#8 a1 a0) = .ok .nop) ∧
  decode 0x00000000#32 = .ok .nop

/-- SYND (41_error_correction.md R171). -/
def Obligations.SyndWritesTheSyndrome : Prop :=
  (∀ s, busy s = false →
    exec .synd s = .next { s with res0 := (syn s.opa).setWidth 32, res1 := 0#32 }) ∧
  (∀ w : Word, syn w = syn (w ^^^ 1#32)) ∧ syn 0#32 = 0#10 ∧ syn 0xFFFFFFFF#32 = 0#10 ∧
  syn 0x80000000#32 = 0x3B4#10 ∧
  (∀ (a1 : BitVec 8) (a0 : BitVec 16), decode (commandWord 0x01#8 a1 a0) = .ok .synd)

/-- PARITY and the two parity functions (40_bitpacking.md R141, R142). -/
def Obligations.ParityWritesBothParities : Prop :=
  (∀ s, busy s = false → ∃ r : Word, exec .parity s = .next { s with res0 := r, res1 := 0#32 } ∧
    r.getLsbD 0 = parityOk s.opa ∧ r.getLsbD 1 = parityExp s.opa ∧ ∀ j, 2 ≤ j → r.getLsbD j = false) ∧
  (∀ w : Word, parityOk w = decide ((∑ i ∈ Finset.range 32, (w.getLsbD i).toNat) % 2 = 0)) ∧
  (∀ w : Word, parityExp w = decide ((∑ i ∈ Finset.range 31, (w.getLsbD (i + 1)).toNat) % 2 = 1)) ∧
  (∀ w : Word, parityOk w = (w.getLsbD 0 == parityExp w)) ∧
  (∀ (a1 : BitVec 8) (a0 : BitVec 16), decode (commandWord 0x02#8 a1 a0) = .ok .parity)

/-- PACKM (40_bitpacking.md R143), and R145 for its width. -/
def Obligations.PackmWritesTheTopBits : Prop :=
  (∀ (g : BitVec 8) (s : State), busy s = false →
    (1 ≤ g.toNat → g.toNat ≤ 32 →
      exec (.packm g) s = .next { s with res0 := s.opa >>> (32 - g.toNat), res1 := 0#32 }) ∧
    (g.toNat = 0 ∨ 32 < g.toNat → exec (.packm g) s = .next { s with errArg := true })) ∧
  (∀ (g : BitVec 8) (a0 : BitVec 16), decode (commandWord 0x08#8 g a0) = .ok (.packm g))

/-- PACKL (40_bitpacking.md R146), and R145 for its width. -/
def Obligations.PacklWritesTheBitsReversed : Prop :=
  (∀ (g : BitVec 8) (s : State), busy s = false →
    (1 ≤ g.toNat → g.toNat ≤ 32 →
      (∃ v : Word, exec (.packl g) s = .next { s with res0 := v, res1 := 0#32 } ∧
        ∀ j, v.getLsbD j = (decide (j < g.toNat) && s.opa.getLsbD (31 - j))) ∧
      ((∀ j, j < g.toNat → s.opa.getLsbD (31 - j) = s.opa.getLsbD (32 - g.toNat + j)) →
        exec (.packl g) s = exec (.packm g) s)) ∧
    (g.toNat = 1 → exec (.packl g) s = exec (.packm g) s) ∧
    (g.toNat = 0 ∨ 32 < g.toNat → exec (.packl g) s = .next { s with errArg := true })) ∧
  (∀ (g : BitVec 8) (a0 : BitVec 16), decode (commandWord 0x09#8 g a0) = .ok (.packl g))

/-- The BCD character table (40_bitpacking.md R147). -/
def Obligations.BcdCharacterTable : Prop :=
  (∀ d, d ≤ 9 → bcdChar d = BitVec.ofNat 8 (0x30 + d) ∧ bcdEmit d = true) ∧
  (bcdChar 10 = 0x00#8 ∧ bcdEmit 10 = false) ∧ (bcdChar 11 = 0x55#8 ∧ bcdEmit 11 = true) ∧
  (bcdChar 12 = 0x20#8 ∧ bcdEmit 12 = true) ∧ (bcdChar 13 = 0x2D#8 ∧ bcdEmit 13 = true) ∧
  (bcdChar 14 = 0x29#8 ∧ bcdEmit 14 = true) ∧ (bcdChar 15 = 0x28#8 ∧ bcdEmit 15 = true)

/-- BCD5 (40_bitpacking.md R149), each digit from its four bits by the formula of R148. -/
def Obligations.Bcd5WritesCharactersAndEmitBits : Prop :=
  (∀ (a1 : BitVec 8) (a0 : BitVec 16), decode (commandWord 0x0A#8 a1 a0) = .ok .bcd5) ∧
  ∀ s, busy s = false → ∃ r0 r1 : Word, exec .bcd5 s = .next { s with res0 := r0, res1 := r1 } ∧
    (∀ k, k < 4 → r0.extractLsb' (24 - 8 * k) 8 = bcdChar
      ((s.opa.getLsbD (19 - 4 * k)).toNat + 2 * (s.opa.getLsbD (18 - 4 * k)).toNat +
        4 * (s.opa.getLsbD (17 - 4 * k)).toNat + 8 * (s.opa.getLsbD (16 - 4 * k)).toNat)) ∧
    r1.extractLsb' 0 8 = bcdChar ((s.opa.getLsbD 3).toNat + 2 * (s.opa.getLsbD 2).toNat +
      4 * (s.opa.getLsbD 1).toNat + 8 * (s.opa.getLsbD 0).toNat) ∧
    (∀ k, k < 5 → r1.getLsbD (8 + k) = bcdEmit
      ((s.opa.getLsbD (19 - 4 * k)).toNat + 2 * (s.opa.getLsbD (18 - 4 * k)).toNat +
        4 * (s.opa.getLsbD (17 - 4 * k)).toNat + 8 * (s.opa.getLsbD (16 - 4 * k)).toNat)) ∧
    r1.extractLsb' 13 19 = 0#19

/-- CORRECT (41_error_correction.md R176): its two results, its corner cases, and what VALID means (R175). -/
def Obligations.CorrectWritesTheCorrectionAndItsFlags : Prop :=
  (∀ s, busy s = false → ∃ r1 : Word,
    exec .correct s = .next { s with res0 := (correctWord s.opa).w2, res1 := r1 } ∧
    r1.extractLsb' 0 2 = (correctWord s.opa).n ∧ r1.getLsbD 2 = (correctWord s.opa).valid ∧
    r1.getLsbD 3 = (correctWord s.opa).unc ∧ r1.getLsbD 4 = (correctWord s.opa).pflip ∧
    r1.getLsbD 5 = (correctWord s.opa).pok ∧ r1.extractLsb' 6 10 = 0#10 ∧
    r1.extractLsb' 16 10 = (correctWord s.opa).s0 ∧ r1.extractLsb' 26 6 = 0#6) ∧
  (∀ w, (correctWord w).n ≠ 3#2) ∧
  (∀ w, (correctWord w).pflip = true →
    (correctWord w).n = 1#2 ∧ (correctWord w).valid = true ∧ (correctWord w).unc = false) ∧
  (∀ w, (correctWord w).unc = true →
    (correctWord w).valid = false ∧ (correctWord w).n = 0#2 ∧ (correctWord w).w2 = w) ∧
  (∀ w, (correctWord w).valid = true ↔
    syn (correctWord w).w2 = 0#10 ∧ parityOk (correctWord w).w2 = true) ∧
  (∀ (a1 : BitVec 8) (a0 : BitVec 16), decode (commandWord 0x03#8 a1 a0) = .ok .correct)

/-- Correct does what its three stages say (41_error_correction.md R174), whichever pattern a search finds: at most one
matches, which the spec derives in R177 (log 9). -/
def Obligations.CorrectFollowsItsStages : Prop :=
  ∀ w : Word,
    (correctWord w).s0 = syn w ∧ (correctWord w).pok = parityOk (correctWord w).w2 ∧
    ((correctWord w).valid = true ↔ (correctWord w).unc = false ∧ (correctWord w).pok = true) ∧
    (syn w = 0#10 → (correctWord w).unc = false ∧
      (parityOk w = true → (correctWord w).w2 = w ∧ (correctWord w).n = 0#2 ∧ (correctWord w).pflip = false) ∧
      (parityOk w = false →
        (correctWord w).w2 = w ^^^ 1#32 ∧ (correctWord w).n = 1#2 ∧ (correctWord w).pflip = true)) ∧
    (syn w ≠ 0#10 → (correctWord w).pflip = false ∧
      (∀ j, j < 31 → syn (w ^^^ seqMask j) = 0#10 →
        (correctWord w).w2 = w ^^^ seqMask j ∧ (correctWord w).n = 1#2 ∧ (correctWord w).unc = false) ∧
      ((∀ j, j < 31 → syn (w ^^^ seqMask j) ≠ 0#10) →
        (∀ i j, i < j → j < 31 → syn (w ^^^ seqMask i ^^^ seqMask j) = 0#10 →
          (correctWord w).w2 = w ^^^ seqMask i ^^^ seqMask j ∧ (correctWord w).n = 2#2 ∧
          (correctWord w).unc = false) ∧
        ((∀ i j, i < j → j < 31 → syn (w ^^^ seqMask i ^^^ seqMask j) ≠ 0#10) →
          (correctWord w).w2 = w ∧ (correctWord w).n = 0#2 ∧ (correctWord w).unc = true)))

/-- CLASSIFY (42_frame_parser.md R203), the type by R202. -/
def Obligations.ClassifyWritesTheTypeOfTheRawWord : Prop :=
  (∀ (a1 : BitVec 8) (a0 : BitVec 16), decode (commandWord 0x04#8 a1 a0) = .ok .classify) ∧
  ∀ s, busy s = false →
    (s.opa = 0x7A89C197#32 → exec .classify s = .next { s with res0 := 2#32, res1 := 0#32 }) ∧
    (s.opa ≠ 0x7A89C197#32 → s.opa.getLsbD 31 = false →
      exec .classify s = .next { s with res0 := 0#32, res1 := 0#32 }) ∧
    (s.opa ≠ 0x7A89C197#32 → s.opa.getLsbD 31 = true →
      exec .classify s = .next { s with res0 := 1#32, res1 := 0#32 })

/-- DECODE (42_frame_parser.md R204). -/
def Obligations.DecodeWritesTheCorrectedCodeword : Prop :=
  (∀ s, busy s = false → ∃ r1 : Word,
    exec .decode s = .next { s with res0 := (correctWord s.opa).w2, res1 := r1 } ∧
    r1.extractLsb' 0 2 = (correctWord s.opa).n ∧ r1.getLsbD 2 = (correctWord s.opa).valid ∧
    r1.extractLsb' 3 2 = typeCode (typeOf (correctWord s.opa).w2) ∧ r1.extractLsb' 5 7 = 0#7 ∧
    r1.extractLsb' 12 20 = (correctWord s.opa).w2.extractLsb' 11 20) ∧
  (typeOf (correctWord 0x7A89C196#32).w2 = .idle ∧ payloadOf idleWord = 0xF5138#20) ∧
  (typeOf (correctWord 0x07074238#32).w2 = .message ∧ (correctWord 0x07074238#32).n = 1#2) ∧
  (∀ (a1 : BitVec 8) (a0 : BitVec 16), decode (commandWord 0x05#8 a1 a0) = .ok .decode)

/-- STATCLR (44_control.md R271). -/
def Obligations.StatclrClearsTheSixCounters : Prop :=
  (∀ s, busy s = false → exec .statclr s = .next { s with
    statBatch := 0#32, statCw := 0#32, statFix := 0#32, statBad := 0#32, statMsg := 0#32, statOrph := 0#32 }) ∧
  (∀ s, busy s = true → exec .statclr s = .next { s with errBusy := true }) ∧
  (∀ (a1 : BitVec 8) (a0 : BitVec 16), decode (commandWord 0x1E#8 a1 a0) = .ok .statclr)

/-- SRESET and a cycle of rst give every state of 10_state.md R58 its reset value, BUSY or not, and keep IBB
(44_control.md R272, 70_reset_and_hazards.md R320, R321). Of agenda and rdata, the model's own fields (log 1, 6), it says
only that both ways leave them alike. -/
def Obligations.SresetAndRstResetAllButTheBuffer : Prop :=
  (∀ (a1 : BitVec 8) (a0 : BitVec 16), decode (commandWord 0x1F#8 a1 a0) = .ok .sreset) ∧
  ∀ s : State, ∃ t : State, exec .sreset s = .next t ∧
    t = ({ params := s.params, agenda := t.agenda, rdata := t.rdata, ibb := s.ibb, fifo := []
           opa := 0#32, res0 := 0#32, res1 := 0#32, len := 0#32, bufaddr := 0#32
           stSync := false, stDone := false, stNosync := false, stIncomplete := false, errIllegal := false
           errBusy := false, errArg := false, stOrphan := false, stUncorr := false
           statBatch := 0#32, statCw := 0#32, statFix := 0#32, statBad := 0#32, statMsg := 0#32, statOrph := 0#32
           estate := .idle, scanP := 0, cwK := 0#4, runBatch := 0#32, jobW := 0#32, jobI := 0#4
           openF := false, slotRW := 0#32, slotMV := false, slotPcnt := 0#16 } : State) ∧
    (s.params.wf → statusWord t = 0#32) ∧ rstCycle none s = t ∧ (∀ a v, rstCycle (some (.write a v)) s = t) ∧
    (∀ a, rstCycle (some (.read a)) s = { t with rdata := 0#32 })

/-- The computing unit commands read OPA and the command word only, and write RES0 and RES1 only
(40_bitpacking.md R140, 10_state.md R33, R34). -/
def Obligations.UnitResultsDependOnTheOperandAlone : Prop :=
  (∀ i : Instr, (i = .synd ∨ i = .parity ∨ i = .correct ∨ i = .classify ∨ i = .decode ∨ i = .bcd5 ∨
      (∃ g, i = .packm g) ∨ (∃ g, i = .packl g)) → i.WellFormed = true →
    ∀ w : Word, ∃ r0 r1 : Word, ∀ s : State, s.opa = w →
      (busy s = false → exec i s = .next { s with res0 := r0, res1 := r1 }) ∧
      (busy s = true → exec i s = .next { s with errBusy := true })) ∧
  (∀ i : Instr, i.WellFormed = false → ∀ s : State, busy s = false → exec i s = .next { s with errArg := true })

/-! ### The engine commands -/

/-- The acceptance of RUN (42_frame_parser.md R206). -/
def Obligations.RunIsAccepted : Prop :=
  (∀ s, busy s = false → exec .run s = .next { s with
    stSync := false, stDone := false, stNosync := false, stIncomplete := false
    runBatch := 0#32, scanP := 0, cwK := 0#4, estate := .start }) ∧
  (∀ s, busy s = true → exec .run s = .next { s with errBusy := true }) ∧
  (∀ (a1 : BitVec 8) (a0 : BitVec 16), decode (commandWord 0x10#8 a1 a0) = .ok .run)

/-- The acceptance of ASMCW (43_message_assembler.md R245). -/
def Obligations.AsmcwLatchesOperandAndTag : Prop :=
  ∀ tag, (∀ s, busy s = false →
      exec (.asmcw tag) s = .next { s with jobW := s.opa, jobI := tag, estate := .asm }) ∧
    (∀ s, busy s = true → exec (.asmcw tag) s = .next { s with errBusy := true }) ∧
    (∀ (a1 : BitVec 8) (high : BitVec 12), decode (commandWord 0x11#8 a1 (high ++ tag)) = .ok (.asmcw tag))

/-- The acceptance of ASMEND, and its step when no message is open (43_message_assembler.md R246). -/
def Obligations.AsmendIsAccepted : Prop :=
  (∀ s, busy s = false → exec .asmend s = .next { s with estate := .aend } ∧
    (s.openF = false → engineStep { s with estate := .aend } = .next { s with estate := .idle })) ∧
  (∀ s, busy s = true → exec .asmend s = .next { s with errBusy := true }) ∧
  (∀ (a1 : BitVec 8) (a0 : BitVec 16), decode (commandWord 0x12#8 a1 a0) = .ok .asmend)

/-- What is refused while BUSY = 1 and what is not (70_reset_and_hazards.md R330). -/
def Obligations.OnlyCmdLenAndBufdataWritesAreRefusedWhileBusy : Prop :=
  ∀ s, busy s = true →
    (∀ c : Word, (opOf c).toNat ≠ 0x1F →
      hostAccess (.write 0x04#7 c) s = .next { s with errBusy := true }) ∧
    (∀ v, hostAccess (.write 0x18#7 v) s = .next { s with errBusy := true }) ∧
    (∀ v, hostAccess (.write 0x20#7 v) s = .next { s with errBusy := true }) ∧
    (∀ v, hostAccess (.write 0x0C#7 v) s = .next { s with opa := v }) ∧
    (∀ v : Word, hostAccess (.write 0x1C#7 v) s =
      .next { s with bufaddr := BitVec.ofNat 32 (v.toNat % s.params.bufWords) }) ∧
    (∀ v, hostAccess (.write 0x08#7 v) s = .next (writeStatus v s)) ∧
    (∀ (a : BitVec 7) v, a.toNat / 4 ∉ [1, 2, 3, 6, 7, 8] → hostAccess (.write a v) s = .next s) ∧
    (∀ c : Word, (opOf c).toNat = 0x1F → hostAccess (.write 0x04#7 c) s = exec .sreset s) ∧
    (∀ (a : BitVec 7) t, a.toNat / 4 ≠ 2 → hostAccess (.read a) { s with estate := .idle } = .next t →
      hostAccess (.read a) s = .next { t with estate := s.estate }) ∧
    (∀ a : BitVec 7, a.toNat / 4 = 2 → hostAccess (.read a) s = .next { s with rdata := statusWord s }) ∧
    (∀ (a : BitVec 7) t, hostAccess (.read a) s = .next t →
      t = { s with rdata := t.rdata, bufaddr := t.bufaddr, fifo := t.fifo })

/-! ### Error correction -/

/-- Syn(W) is the remainder of the protected span modulo G (41_error_correction.md R170, 00_scope.md R13), and the two
source constants are codewords. -/
def Obligations.SyndromeIsThePolynomialRemainder : Prop :=
  (∀ w : Word,
    (∑ k ∈ Finset.range 10, if (syn w).getLsbD k then (Polynomial.X : Polynomial (ZMod 2)) ^ k else 0) =
      (∑ k ∈ Finset.range 31, if w.getLsbD (k + 1) then (Polynomial.X : Polynomial (ZMod 2)) ^ k else 0) %ₘ
        (Polynomial.X ^ 10 + Polynomial.X ^ 9 + Polynomial.X ^ 8 + Polynomial.X ^ 6 + Polynomial.X ^ 5 +
          Polynomial.X ^ 3 + 1)) ∧
  syn 0x7CD215D8#32 = 0#10 ∧ syn 0x7A89C197#32 = 0#10

/-- Syn is linear, and the xor of the table entries of the set bits (41_error_correction.md R172). -/
def Obligations.SyndromeIsLinear : Prop :=
  (∀ a b : Word, syn (a ^^^ b) = syn a ^^^ syn b) ∧
  (∀ w : Word, syn w =
    (List.range 31).foldl (fun acc j => if w.getLsbD (31 - j) then acc ^^^ syn (seqMask j) else acc) 0#10) ∧
  (List.range 31).map (fun j => (syn (seqMask j)).toNat) =
    [0x3B4, 0x1DA, 0x0ED, 0x3C2, 0x1E1, 0x344, 0x1A2, 0x0D1, 0x3DC, 0x1EE, 0x0F7, 0x3CF, 0x253, 0x29D, 0x2FA,
      0x17D, 0x30A, 0x185, 0x376, 0x1BB, 0x369, 0x200, 0x100, 0x080, 0x040, 0x020, 0x010, 0x008, 0x004, 0x002,
      0x001]

/-- A codeword without an error, or with the parity bit alone wrong (41_error_correction.md R178 (a), (d)). -/
def Obligations.CleanAndParityOnlyErrorsAreRestored : Prop :=
  ∀ c : Word, syn c = 0#10 → parityOk c = true →
    ((correctWord c).w2 = c ∧ (correctWord c).n = 0#2 ∧ (correctWord c).valid = true) ∧
    ((correctWord (c ^^^ 1#32)).w2 = c ∧ (correctWord (c ^^^ 1#32)).n = 1#2 ∧
      (correctWord (c ^^^ 1#32)).valid = true ∧ (correctWord (c ^^^ 1#32)).pflip = true)

/-- One wrong bit in the protected span is restored (41_error_correction.md R178 (b)). -/
def Obligations.SingleErrorsAreRestored : Prop :=
  ∀ c : Word, syn c = 0#10 → parityOk c = true → ∀ j, j < 31 →
    (correctWord (c ^^^ seqMask j)).w2 = c ∧ (correctWord (c ^^^ seqMask j)).n = 1#2 ∧
    (correctWord (c ^^^ seqMask j)).valid = true

/-- Two wrong bits in the protected span are restored (41_error_correction.md R178 (c)). -/
def Obligations.DoubleErrorsAreRestored : Prop :=
  ∀ c : Word, syn c = 0#10 → parityOk c = true → ∀ i j, i < j → j < 31 →
    (correctWord (c ^^^ seqMask i ^^^ seqMask j)).w2 = c ∧ (correctWord (c ^^^ seqMask i ^^^ seqMask j)).n = 2#2 ∧
    (correctWord (c ^^^ seqMask i ^^^ seqMask j)).valid = true

/-- A wrong parity bit with one wrong protected bit, at any of the 31 positions, or with two, is marked invalid
(41_error_correction.md R178 (e), (f)). -/
def Obligations.ProtectedAndParityErrorsAreInvalid : Prop :=
  ∀ c : Word, syn c = 0#10 → parityOk c = true →
    (∀ j, j < 31 → (correctWord (c ^^^ seqMask j ^^^ 1#32)).w2 = c ^^^ 1#32 ∧
      (correctWord (c ^^^ seqMask j ^^^ 1#32)).n = 1#2 ∧ (correctWord (c ^^^ seqMask j ^^^ 1#32)).valid = false) ∧
    (∀ i j, i < j → j < 31 → (correctWord (c ^^^ seqMask i ^^^ seqMask j ^^^ 1#32)).w2 = c ^^^ 1#32 ∧
      (correctWord (c ^^^ seqMask i ^^^ seqMask j ^^^ 1#32)).n = 2#2 ∧
      (correctWord (c ^^^ seqMask i ^^^ seqMask j ^^^ 1#32)).valid = false)

/-- Three wrong bits in the protected span are never reported valid (41_error_correction.md R178 (g)). -/
def Obligations.TripleErrorsAreInvalid : Prop :=
  ∀ c : Word, syn c = 0#10 → parityOk c = true → ∀ i j k, i < j → j < k → k < 31 →
    (correctWord (c ^^^ seqMask i ^^^ seqMask j ^^^ seqMask k)).valid = false

/-! ### The buffer, the FIFO and the port -/

/-- A BUFDATA write (20_memory.md R87). -/
def Obligations.BufdataWriteStoresAndIncrements : Prop :=
  ∀ (s : State) (v : Word),
    (busy s = true → hostAccess (.write 0x20#7 v) s = .next { s with errBusy := true }) ∧
    (busy s = false → ∃ t, hostAccess (.write 0x20#7 v) s = .next t ∧
      t = { s with ibb := t.ibb, bufaddr := BitVec.ofNat 32 ((s.bufaddr.toNat + 1) % s.params.bufWords) } ∧
      readWord t.ibb s.bufaddr.toNat = some v ∧
      (∀ j, j ≠ s.bufaddr.toNat → readWord t.ibb j = readWord s.ibb j) ∧
      (∀ a, a / 4 ≠ s.bufaddr.toNat → readByte t.ibb a = readByte s.ibb a))

/-- A BUFDATA read (20_memory.md R86). -/
def Obligations.BufdataReadReturnsAndIncrements : Prop :=
  ∀ s : State,
    (∀ v, readWord s.ibb s.bufaddr.toNat = some v → hostAccess (.read 0x20#7) s = .next { s with
      rdata := v, bufaddr := BitVec.ofNat 32 ((s.bufaddr.toNat + 1) % s.params.bufWords) }) ∧
    (readWord s.ibb s.bufaddr.toNat = none → hostAccess (.read 0x20#7) s = .fault .unwrittenBufdata)

/-- Window(b) is the 32 buffer bits from b on, MSB-first, and answers exactly when all of them are written
(20_memory.md R84, R85). -/
def Obligations.WindowIsThe32BitsFromItsStart : Prop :=
  ∀ (m : List Host.Cell) (b : Nat),
    (∀ w, window m b = some w → ∀ i, i < 32 → bufBit m (b + i) = some (w.getLsbD (31 - i))) ∧
    ((∀ i, i < 32 → (bufBit m (b + i)).isSome = true) → (window m b).isSome = true) ∧
    (∀ w, readWord m (b / 32) = some w → bufBit m b = some (w.getLsbD (31 - b % 32)))

/-- LEN and BUFADDR legalise what is written (10_state.md R44, R45). -/
def Obligations.LenAndBufaddrLegalise : Prop :=
  ∀ (s : State) (v : Word), s.params.wf →
    (busy s = true → hostAccess (.write 0x18#7 v) s = .next { s with errBusy := true }) ∧
    (busy s = false → ∃ t, hostAccess (.write 0x18#7 v) s = .next t ∧ t = { s with len := t.len } ∧
      t.len.toNat = min v.toNat (32 * 2 ^ s.params.log2BufWords) ∧ t.len.toNat ≤ 2 ^ 21 ∧
      hostAccess (.read 0x18#7) t = .next { t with rdata := t.len }) ∧
    (∃ t, hostAccess (.write 0x1C#7 v) s = .next t ∧ t = { s with bufaddr := t.bufaddr } ∧
      t.bufaddr.toNat = v.toNat % 2 ^ s.params.log2BufWords ∧
      hostAccess (.read 0x1C#7) t = .next { t with rdata := t.bufaddr })

/-- A read of STATUS field by field, and a write of STATUS (10_state.md R43, 70_reset_and_hazards.md R335). -/
def Obligations.StatusReadsItsFieldsAndClearsW1C : Prop :=
  ∀ s : State,
    (∃ v : Word, hostAccess (.read 0x08#7) s = .next { s with rdata := v } ∧
      v.getLsbD 0 = decide (s.estate ≠ .idle) ∧ v.getLsbD 1 = s.openF ∧ v.getLsbD 2 = s.stSync ∧
      v.getLsbD 3 = s.stDone ∧ v.getLsbD 4 = s.stNosync ∧ v.getLsbD 5 = s.stIncomplete ∧
      v.extractLsb' 6 2 = 0#2 ∧ v.getLsbD 8 = decide (0 < s.fifo.length) ∧
      v.getLsbD 9 = decide (s.fifo.length = s.params.fifoDepth) ∧ v.extractLsb' 10 6 = 0#6 ∧
      v.extractLsb' 16 8 = BitVec.ofNat 8 s.fifo.length ∧ v.getLsbD 24 = s.errIllegal ∧
      v.getLsbD 25 = s.errBusy ∧ v.getLsbD 26 = s.errArg ∧ v.getLsbD 27 = false ∧ v.getLsbD 28 = s.stOrphan ∧
      v.getLsbD 29 = s.stUncorr ∧ v.extractLsb' 30 2 = 0#2) ∧
    (∀ v : Word, hostAccess (.write 0x08#7 v) s = .next { s with
      errIllegal := s.errIllegal && !v.getLsbD 24, errBusy := s.errBusy && !v.getLsbD 25
      errArg := s.errArg && !v.getLsbD 26, stOrphan := s.stOrphan && !v.getLsbD 28
      stUncorr := s.stUncorr && !v.getLsbD 29 })

/-- OUT_HI peeks and OUT_LO pops (20_memory.md R91). -/
def Obligations.OutHiPeeksAndOutLoPops : Prop :=
  ∀ s : State,
    (s.fifo = [] → hostAccess (.read 0x24#7) s = .next { s with rdata := 0#32 } ∧
      hostAccess (.read 0x28#7) s = .next { s with rdata := 0#32 }) ∧
    (∀ r rest, s.fifo = r :: rest → hostAccess (.read 0x24#7) s = .next { s with rdata := r.hi } ∧
      hostAccess (.read 0x28#7) s = .next { s with rdata := r.lo, fifo := rest })

/-- Unmapped offsets and read-only registers (10_state.md R51). -/
def Obligations.UnmappedAndReadOnlyAccessesDoNothing : Prop :=
  ∀ s : State,
    (∀ a : BitVec 7, 0x48 ≤ a.toNat → hostAccess (.read a) s = .next { s with rdata := 0#32 } ∧
      ∀ v, hostAccess (.write a v) s = .next s) ∧
    (∀ a : BitVec 7, a.toNat / 4 ∈ [0, 4, 5, 9, 10, 11, 12, 13, 14, 15, 16, 17] →
      ∀ v, hostAccess (.write a v) s = .next s)

/-- The register map: what a read of each plain register answers, that the two low address bits are ignored, and that OPA
reads back what is written (10_state.md R32, R40, R41, R42, R49, R50, 20_memory.md R80). -/
def Obligations.RegisterReadsFollowTheMap : Prop :=
  ∀ s : State,
    (∀ a : BitVec 7, hostAccess (.read a) s = hostAccess (.read (a &&& 0x7C#7)) s ∧
      ∀ v, hostAccess (.write a v) s = hostAccess (.write (a &&& 0x7C#7) v) s) ∧
    hostAccess (.read 0x00#7) s = .next { s with rdata := 0x50430100#32 } ∧
    hostAccess (.read 0x04#7) s = .next { s with rdata := 0#32 } ∧
    hostAccess (.read 0x0C#7) s = .next { s with rdata := s.opa } ∧
    hostAccess (.read 0x10#7) s = .next { s with rdata := s.res0 } ∧
    hostAccess (.read 0x14#7) s = .next { s with rdata := s.res1 } ∧
    hostAccess (.read 0x2C#7) s = .next { s with rdata := s.statBatch } ∧
    hostAccess (.read 0x30#7) s = .next { s with rdata := s.statCw } ∧
    hostAccess (.read 0x34#7) s = .next { s with rdata := s.statFix } ∧
    hostAccess (.read 0x38#7) s = .next { s with rdata := s.statBad } ∧
    hostAccess (.read 0x3C#7) s = .next { s with rdata := s.statMsg } ∧
    hostAccess (.read 0x40#7) s = .next { s with rdata := s.statOrph } ∧
    (s.params.wf → ∃ v : Word, hostAccess (.read 0x44#7) s = .next { s with rdata := v } ∧
      (v.extractLsb' 0 8).toNat = s.params.fifoDepth ∧ (v.extractLsb' 8 5).toNat = s.params.log2BufWords ∧
      v.extractLsb' 13 19 = 0#19) ∧
    (∀ v, hostAccess (.write 0x0C#7 v) s = .next { s with opa := v })

/-- The state after reset (10_state.md R58), whatever the parameters, every IBB word unwritten
(70_reset_and_hazards.md R322). -/
def Obligations.ResetStateHoldsTheTable : Prop :=
  ∀ p : Params,
    (State.resetWith p).opa = 0#32 ∧ (State.resetWith p).res0 = 0#32 ∧ (State.resetWith p).res1 = 0#32 ∧
    (State.resetWith p).len = 0#32 ∧ (State.resetWith p).bufaddr = 0#32 ∧
    (p.wf → statusWord (State.resetWith p) = 0#32) ∧
    (State.resetWith p).statBatch = 0#32 ∧ (State.resetWith p).statCw = 0#32 ∧
    (State.resetWith p).statFix = 0#32 ∧ (State.resetWith p).statBad = 0#32 ∧
    (State.resetWith p).statMsg = 0#32 ∧ (State.resetWith p).statOrph = 0#32 ∧
    (State.resetWith p).estate = .idle ∧ (State.resetWith p).scanP = 0 ∧ (State.resetWith p).cwK = 0#4 ∧
    (State.resetWith p).runBatch = 0#32 ∧ (State.resetWith p).jobW = 0#32 ∧ (State.resetWith p).jobI = 0#4 ∧
    (State.resetWith p).openF = false ∧ (State.resetWith p).slotRW = 0#32 ∧
    (State.resetWith p).slotMV = false ∧ (State.resetWith p).slotPcnt = 0#16 ∧
    (State.resetWith p).fifo = [] ∧ (∀ i, readWord (State.resetWith p).ibb i = none) ∧
    (∃ t, hostAccess (.read 0x00#7) (State.resetWith p) = .next t ∧ t.rdata = 0x50430100#32) ∧
    (p.wf → ∃ t, hostAccess (.read 0x44#7) (State.resetWith p) = .next t ∧
      (t.rdata.extractLsb' 0 8).toNat = p.fifoDepth ∧ (t.rdata.extractLsb' 8 5).toNat = p.log2BufWords)

/-! ### The engine -/

/-- START (42_frame_parser.md R207). -/
def Obligations.StartClosesAnOpenMessage : Prop :=
  ∀ s : State, s.estate = .start →
    (s.openF = false → engineStep s = .next { s with estate := .scan }) ∧
    (s.openF = true → 1 ≤ free s → engineStep s = .next { s with
      fifo := s.fifo ++ [closeRecord .endOfInput s.slotMV s.slotPcnt s.slotRW]
      statMsg := s.statMsg + 1#32, openF := false, estate := .scan }) ∧
    (s.openF = true → free s = 0 → engineStep s = .next s)

/-- SCAN (42_frame_parser.md R211, R212). -/
def Obligations.ScanFollowsItsBranches : Prop :=
  ∀ s : State, s.estate = .scan →
    (s.len.toNat < s.scanP + 32 → engineStep s = .next { s with estate := .flush }) ∧
    (s.scanP + 32 ≤ s.len.toNat →
      (window s.ibb s.scanP = none → engineStep s = .fault .unwrittenWindow) ∧
      (∀ w, window s.ibb s.scanP = some w → w ≠ 0x7CD215D8#32 →
        engineStep s = .next { s with scanP := s.scanP + 1 }) ∧
      (window s.ibb s.scanP = some 0x7CD215D8#32 → s.scanP + 32 + 512 ≤ s.len.toNat →
        engineStep s = .next { s with stSync := true, cwK := 0#4, estate := .batch }) ∧
      (window s.ibb s.scanP = some 0x7CD215D8#32 → s.len.toNat < s.scanP + 544 → 1 ≤ free s →
        engineStep s = .next { s with
          fifo := s.fifo ++ [{ hi := 0x50000000#32, lo := BitVec.ofNat 32 s.scanP }]
          stSync := true, stIncomplete := true, estate := .flush }) ∧
      (window s.ibb s.scanP = some 0x7CD215D8#32 → s.len.toNat < s.scanP + 544 → free s = 0 →
        engineStep s = .next s))

/-- BATCH (42_frame_parser.md R213). -/
def Obligations.BatchTakesOneCodeword : Prop :=
  ∀ s : State, s.estate = .batch →
    (window s.ibb (s.scanP + 32 + 32 * s.cwK.toNat) = none → engineStep s = .fault .unwrittenWindow) ∧
    (∀ raw, window s.ibb (s.scanP + 32 + 32 * s.cwK.toNat) = some raw →
      (free s < need raw s → engineStep s = .next s) ∧
      (need raw s ≤ free s → s.cwK ≠ 15#4 →
        engineStep s = .next { codewordStep raw s.cwK s with cwK := s.cwK + 1#4 }) ∧
      (need raw s ≤ free s → s.cwK = 15#4 → engineStep s = .next { codewordStep raw s.cwK s with
        runBatch := s.runBatch + 1#32, statBatch := s.statBatch + 1#32, scanP := s.scanP + 1, estate := .scan }))

/-- FLUSH (42_frame_parser.md R214). -/
def Obligations.FlushEndsTheRun : Prop :=
  ∀ s : State, s.estate = .flush →
    (free s < 1 + s.openF.toNat → engineStep s = .next s) ∧
    (s.openF = false → 1 ≤ free s → engineStep s = .next { s with
      fifo := s.fifo ++ [runDoneRecord s.stIncomplete (!s.stSync) s.runBatch]
      stNosync := !s.stSync, stDone := true, estate := .idle }) ∧
    (s.openF = true → 2 ≤ free s → engineStep s = .next { s with
      fifo := s.fifo ++ [closeRecord .endOfInput s.slotMV s.slotPcnt s.slotRW,
        runDoneRecord s.stIncomplete (!s.stSync) s.runBatch]
      statMsg := s.statMsg + 1#32, openF := false
      stNosync := !s.stSync, stDone := true, estate := .idle })

/-- ASM and AEND (43_message_assembler.md R247, R248). -/
def Obligations.AsmAndAendCompleteTheirCommand : Prop :=
  (∀ s : State, s.estate = .asm →
    (free s < need s.jobW s → engineStep s = .next s) ∧
    (need s.jobW s ≤ free s → engineStep s = .next { codewordStep s.jobW s.jobI s with estate := .idle })) ∧
  (∀ s : State, s.estate = .aend →
    (s.openF = true → free s = 0 → engineStep s = .next s) ∧
    (s.openF = false → engineStep s = .next { s with estate := .idle }) ∧
    (s.openF = true → 1 ≤ free s → engineStep s = .next { s with
      fifo := s.fifo ++ [closeRecord .endOfInput s.slotMV s.slotPcnt s.slotRW]
      statMsg := s.statMsg + 1#32, openF := false, estate := .idle }))

/-- The codeword step (43_message_assembler.md R240 to R244): the counters of every codeword, then its type. -/
def Obligations.CodewordStepFollowsTheType : Prop :=
  ∀ (raw : Word) (cwi : BitVec 4) (s s0 : State), s0 = { s with
      statCw := s.statCw + 1#32, statFix := s.statFix + (correctWord raw).n.setWidth 32
      statBad := if (correctWord raw).valid then s.statBad else s.statBad + 1#32
      stUncorr := s.stUncorr || !(correctWord raw).valid } →
    (typeOf (correctWord raw).w2 = .address → s.openF = false → codewordStep raw cwi s = { s0 with
      fifo := s.fifo ++ [codewordRecord 1#4 cwi (correctWord raw)]
      openF := true, slotRW := (correctWord raw).w2, slotMV := (correctWord raw).valid, slotPcnt := 0#16 }) ∧
    (typeOf (correctWord raw).w2 = .address → s.openF = true → codewordStep raw cwi s = { s0 with
      fifo := s.fifo ++ [closeRecord .addr s.slotMV s.slotPcnt s.slotRW, codewordRecord 1#4 cwi (correctWord raw)]
      statMsg := s.statMsg + 1#32
      openF := true, slotRW := (correctWord raw).w2, slotMV := (correctWord raw).valid, slotPcnt := 0#16 }) ∧
    (typeOf (correctWord raw).w2 = .idle → s.openF = false → codewordStep raw cwi s = s0) ∧
    (typeOf (correctWord raw).w2 = .idle → s.openF = true → codewordStep raw cwi s = { s0 with
      fifo := s.fifo ++ [closeRecord .idle s.slotMV s.slotPcnt s.slotRW]
      statMsg := s.statMsg + 1#32, openF := false }) ∧
    (typeOf (correctWord raw).w2 = .message → s.openF = true → codewordStep raw cwi s = { s0 with
      fifo := s.fifo ++ [codewordRecord 2#4 cwi (correctWord raw)]
      slotMV := s.slotMV && (correctWord raw).valid
      slotPcnt := BitVec.ofNat 16 (min (s.slotPcnt.toNat + 1) 0xFFFF) }) ∧
    (typeOf (correctWord raw).w2 = .message → s.openF = false → codewordStep raw cwi s = { s0 with
      fifo := s.fifo ++ [codewordRecord 4#4 cwi (correctWord raw)]
      statOrph := s.statOrph + 1#32, stOrphan := true })

/-- Need(raw) is the number of records the codeword step pushes (43_message_assembler.md R240), each a codeword record or
a MSG_CLOSE record, after those already there. -/
def Obligations.NeedCountsThePushedRecords : Prop :=
  ∀ (raw : Word) (cwi : BitVec 4) (s : State), ∃ rs : List Record,
    (codewordStep raw cwi s).fifo = s.fifo ++ rs ∧ rs.length = need raw s ∧
    ∀ r ∈ rs, (recordKind r).toNat = 3 ∨
      (r.lo = (correctWord raw).w2 ∧ (recordKind r).toNat ∈ [1, 2, 4] ∧ r.hi.extractLsb' 24 4 = cwi)

/-- The fields of the records (43_message_assembler.md R250). -/
def Obligations.RecordsHaveTheirFields : Prop :=
  (∀ (kind cwi : BitVec 4) (c : Correction),
    (codewordRecord kind cwi c).lo = c.w2 ∧ (codewordRecord kind cwi c).hi.extractLsb' 28 4 = kind ∧
    (codewordRecord kind cwi c).hi.extractLsb' 24 4 = cwi ∧ (codewordRecord kind cwi c).hi.extractLsb' 22 2 = c.n ∧
    (codewordRecord kind cwi c).hi.getLsbD 21 = c.valid ∧ (codewordRecord kind cwi c).hi.getLsbD 20 = false ∧
    (codewordRecord kind cwi c).hi.extractLsb' 0 20 = c.w2.extractLsb' 11 20) ∧
  (∀ (reason : CloseReason) (mv : Bool) (pcnt : BitVec 16) (rw0 : Word),
    (closeRecord reason mv pcnt rw0).lo = rw0 ∧ (closeRecord reason mv pcnt rw0).hi.extractLsb' 28 4 = 3#4 ∧
    ((closeRecord reason mv pcnt rw0).hi.extractLsb' 26 2).toNat =
      (match reason with | .addr => 0 | .idle => 1 | .endOfInput => 2) ∧
    (closeRecord reason mv pcnt rw0).hi.extractLsb' 22 4 = 0#4 ∧
    (closeRecord reason mv pcnt rw0).hi.getLsbD 21 = mv ∧
    (closeRecord reason mv pcnt rw0).hi.extractLsb' 16 5 = 0#5 ∧
    (closeRecord reason mv pcnt rw0).hi.extractLsb' 0 16 = pcnt) ∧
  (∀ (incomplete nosync : Bool) (n : Word),
    (runDoneRecord incomplete nosync n).lo = n ∧ (runDoneRecord incomplete nosync n).hi.extractLsb' 28 4 = 6#4 ∧
    (runDoneRecord incomplete nosync n).hi.extractLsb' 2 26 = 0#26 ∧
    (runDoneRecord incomplete nosync n).hi.getLsbD 1 = incomplete ∧
    (runDoneRecord incomplete nosync n).hi.getLsbD 0 = nosync) ∧
  (∀ p : Nat, (incompleteRecord p).hi = 0x50000000#32 ∧ (incompleteRecord p).lo = BitVec.ofNat 32 p)

/-- What no engine step changes, and that the FIFO only grows at its tail (20_memory.md R88, R89, 10_state.md R33, R34,
R57). -/
def Obligations.EngineStepFrame : Prop :=
  ∀ s t : State, engineStep s = .next t →
    t.opa = s.opa ∧ t.res0 = s.res0 ∧ t.res1 = s.res1 ∧ t.len = s.len ∧ t.bufaddr = s.bufaddr ∧
    t.ibb = s.ibb ∧ (∀ a, readByte t.ibb a = readByte s.ibb a) ∧
    t.errIllegal = s.errIllegal ∧ t.errBusy = s.errBusy ∧ t.errArg = s.errArg ∧
    t.jobW = s.jobW ∧ t.jobI = s.jobI ∧ t.params = s.params ∧ t.agenda = s.agenda ∧ t.rdata = s.rdata ∧
    ∃ rs, t.fifo = s.fifo ++ rs

/-! ### The whole machine -/

/-- A step performs the next event of the agenda; a CMD write of a word that decodes runs the decoded command; with no
event pending the engine moves (log 1). -/
def Obligations.StepRunsTheDecodedCommand : Prop :=
  (∀ (s : State) (rest : List PortEvent) (a : BitVec 7) (c : Word) (i : Instr),
    s.agenda = .host (.write a c) :: rest → a.toNat / 4 = 1 → decode c = .ok i →
      step s = exec i { s with agenda := rest }) ∧
  (∀ (s : State) (rest : List PortEvent) (acc : HostAccess), s.agenda = .host acc :: rest →
    step s = hostAccess acc { s with agenda := rest }) ∧
  (∀ (s : State) (rest : List PortEvent), s.agenda = .engine :: rest →
    step s = engineStep { s with agenda := rest }) ∧
  (∀ (s : State) (rest : List PortEvent) (att : Option HostAccess), s.agenda = .rst att :: rest →
    step s = .next (rstCycle att { s with agenda := rest })) ∧
  (∀ s : State, s.agenda = [] → step s = engineStep s)

/-- Every step keeps the invariant of Safety.lean (00_scope.md R6, 10_state.md R36, R44, R45, 20_memory.md R83, R85, R89,
43_message_assembler.md R250). -/
def Obligations.StepKeepsTheInvariant : Prop :=
  ∀ s t : State, Inv s → step s = .next t → Inv t

/-- Every step keeps what the run flags say of one another (10_state.md R43). -/
def Obligations.StepKeepsTheRunFlags : Prop :=
  ∀ s t : State, RunFlagsInv s → step s = .next t → RunFlagsInv t

/-- The state after reset meets both invariants, whatever the parameters. -/
def Obligations.ResetMeetsTheInvariants : Prop :=
  ∀ p : Params, p.wf → Inv (State.resetWith p) ∧ RunFlagsInv (State.resetWith p) ∧ Inv State.reset

/-- A step never refuses, and stops exactly where it reads an unwritten word: on a read of BUFDATA, by a host access or a
poll, while the word at BUFADDR is unwritten, and on the engine's turn in SCAN or BATCH, when the window it reads, which
lies below LEN, touches an unwritten word (20_memory.md R85, R86, R88, 60_exceptions.md R290, R292; the agenda is log 1, the
faults are log 5). -/
def Obligations.StepFaultsOnlyOnUnwrittenWords : Prop :=
  ∀ s : State, Inv s → (∀ r, step s ≠ .refused r) ∧
    (step s = .fault .unwrittenBufdata ↔ readWord s.ibb s.bufaddr.toNat = none ∧
      ∃ (a : BitVec 7) (rest : List PortEvent), a.toNat / 4 = 8 ∧
        (s.agenda = .host (.read a) :: rest ∨ ∃ mask v, s.agenda = .poll a mask v :: rest)) ∧
    (step s = .fault .unwrittenWindow ↔ (s.agenda = [] ∨ ∃ rest, s.agenda = .engine :: rest) ∧
      ((s.estate = .scan ∧ window s.ibb s.scanP = none ∧ s.scanP + 32 ≤ s.len.toNat) ∨
       (s.estate = .batch ∧ window s.ibb (codewordPos s) = none ∧ codewordPos s + 32 ≤ s.len.toNat)))

/-- A host that wrote every word holding a bit below LEN never meets the engine's fault (70_reset_and_hazards.md R324,
20_memory.md R88). -/
def Obligations.LoadedRunNeverFaults : Prop :=
  ∀ s : State, Inv s → Loaded s → ∃ t, engineStep s = .next t ∧ Loaded t

/-- Every engine step of a command that is not a hold brings its end nearer, and a RUN begins within the bound of
42_frame_parser.md R217. -/
def Obligations.EngineStepsRunOut : Prop :=
  (∀ s t : State, Inv s → engineStep s = .next t → t = s ∨ runFuel t < runFuel s) ∧
  (∀ s t : State, busy s = false → exec .run s = .next t →
    runFuel t ≤ s.len.toNat + 16 * (s.len.toNat - 543) + 4)

/-- With room in the FIFO for all its records and its input written, a RUN ends within the bound of 42_frame_parser.md
R217 and leaves what R205 says: the assembler over the whole codeword stream, the reports, and the counts. The empty
agenda, with which every step is the engine's, is the model's own (log 1). -/
def Obligations.RunComputesItsMeaning : Prop :=
  ∀ s0 s : State, Inv s0 → Loaded s0 → busy s0 = false → s0.agenda = [] → exec .run s0 = .next s →
    (runAssembly s).fifo.length + 1 ≤ s.params.fifoDepth →
    ∃ (n : Nat) (t : State), n ≤ s0.len.toNat + 16 * (s0.len.toNat - 543) + 4 ∧
      Host.Core.run Sys2Proof.core n s = .next t ∧
      t = { runAssembly s with
        fifo := (runAssembly s).fifo ++ [runFinalRecord s]
        statBatch := s.statBatch + runBatchCount s
        runBatch := runBatchCount s
        stSync := !(runMatches s.ibb s.len.toNat).isEmpty
        stIncomplete := (runIncomplete s.ibb s.len.toNat).isSome
        stNosync := (runMatches s.ibb s.len.toNat).isEmpty
        stDone := true
        estate := .idle
        scanP := t.scanP
        cwK := t.cwK }

/-- BUSY falls only by the FLUSH, ASM or AEND step, or by a reset (10_state.md R43, 70_reset_and_hazards.md R338), and
the end of a RUN or of an ASMEND leaves no message open (43_message_assembler.md R252). -/
def Obligations.BusyFallsOnlyAtTheEndOfACommand : Prop :=
  ∀ s t : State, step s = .next t → busy s = true → busy t = false →
    ((s.estate = .flush ∨ s.estate = .asm ∨ s.estate = .aend) ∧
      (s.agenda = [] ∨ ∃ rest, s.agenda = .engine :: rest) ∧ (s.estate ≠ .asm → t.openF = false) ∧
      (s.estate = .flush → t.stDone = true)) ∨
    (∃ a c rest, s.agenda = .host (.write a c) :: rest ∧ a.toNat / 4 = 1 ∧ (opOf c).toNat = 0x1F) ∨
    (∃ att rest, s.agenda = .rst att :: rest)

/-- The only writers of the sticky error bits (10_state.md R57): a host access may set ERR_ILLEGAL, ERR_BUSY and ERR_ARG,
an engine step ORPHAN and UNCORR; a step that clears one is a STATUS write of 1 to the bit, SRESET or a cycle of rst, and
the latter two clear all five. What a step performs is the head of the agenda (log 1). -/
def Obligations.StickyBitsHaveTheirOwnWriters : Prop :=
  (∀ s t : State, engineStep s = .next t →
    t.errIllegal = s.errIllegal ∧ t.errBusy = s.errBusy ∧ t.errArg = s.errArg ∧
    (s.stOrphan = true → t.stOrphan = true) ∧ (s.stUncorr = true → t.stUncorr = true)) ∧
  (∀ (a : BitVec 7) (v : Word) (s t : State), hostAccess (.write a v) s = .next t →
    (t.stOrphan = true → s.stOrphan = true) ∧ (t.stUncorr = true → s.stUncorr = true) ∧
    (¬ (a.toNat / 4 = 1 ∧ (opOf v).toNat = 0x1F) →
      (s.errIllegal = true → t.errIllegal = false → a.toNat / 4 = 2 ∧ v.getLsbD 24 = true) ∧
      (s.errBusy = true → t.errBusy = false → a.toNat / 4 = 2 ∧ v.getLsbD 25 = true) ∧
      (s.errArg = true → t.errArg = false → a.toNat / 4 = 2 ∧ v.getLsbD 26 = true) ∧
      (s.stOrphan = true → t.stOrphan = false → a.toNat / 4 = 2 ∧ v.getLsbD 28 = true) ∧
      (s.stUncorr = true → t.stUncorr = false → a.toNat / 4 = 2 ∧ v.getLsbD 29 = true)) ∧
    (s.errIllegal = false → t.errIllegal = true → a.toNat / 4 = 1 ∧ busy s = false ∧ ∃ r, decode v = .error r) ∧
    (s.errBusy = false → t.errBusy = true → busy s = true ∧ a.toNat / 4 ∈ [1, 6, 8]) ∧
    (s.errArg = false → t.errArg = true → a.toNat / 4 = 1 ∧ busy s = false ∧ (opOf v).toNat ∈ [0x08, 0x09] ∧
      ¬ (1 ≤ (arg1Of v).toNat ∧ (arg1Of v).toNat ≤ 32))) ∧
  (∀ (a : BitVec 7) (s t : State), hostAccess (.read a) s = .next t →
    t.errIllegal = s.errIllegal ∧ t.errBusy = s.errBusy ∧ t.errArg = s.errArg ∧ t.stOrphan = s.stOrphan ∧
    t.stUncorr = s.stUncorr) ∧
  (∀ (bit : State → Bool) (k : Nat), (bit, k) ∈ [(State.errIllegal, 24), (State.errBusy, 25), (State.errArg, 26),
      (State.stOrphan, 28), (State.stUncorr, 29)] →
    (∀ s t : State, step s = .next t → bit s = true → bit t = false →
      (∃ (a : BitVec 7) (v : Word) (rest : List PortEvent), s.agenda = .host (.write a v) :: rest ∧
        ((a.toNat / 4 = 2 ∧ v.getLsbD k = true) ∨ (a.toNat / 4 = 1 ∧ (opOf v).toNat = 0x1F))) ∨
      (∃ (att : Option HostAccess) (rest : List PortEvent), s.agenda = .rst att :: rest)) ∧
    (∀ (att : Option HostAccess) (s : State), bit (rstCycle att s) = false) ∧
    (∀ s t : State, exec .sreset s = .next t → bit t = false))
end

