-- ==== Sys2Proof/Laws/Decode.lean ====
section
/-! SUPPORT. The fields of a command word built from its fields (30_encoding.md R110). -/

namespace Sys2Proof

/-- A bit of a command word by its place (30_encoding.md R110). -/
theorem getLsbD_commandWord (op a1 : BitVec 8) (a0 : BitVec 16) (i : Nat) :
    (commandWord op a1 a0).getLsbD i =
      if i < 16 then a0.getLsbD i else if i < 24 then a1.getLsbD (i - 16) else op.getLsbD (i - 24) := by
  have h : (commandWord op a1 a0).getLsbD i =
      if i < 16 then a0.getLsbD i else if i - 16 < 8 then a1.getLsbD (i - 16) else op.getLsbD (i - 16 - 8) := by
    unfold commandWord
    rw [BitVec.getLsbD_append, BitVec.getLsbD_append]
  rw [h]
  by_cases h1 : i < 16
  · rw [if_pos h1, if_pos h1]
  · rw [if_neg h1, if_neg h1]
    by_cases h2 : i < 24
    · rw [if_pos h2, if_pos (by omega)]
    · rw [if_neg h2, if_neg (by omega), Nat.sub_sub]

@[simp] theorem opOf_commandWord (op a1 : BitVec 8) (a0 : BitVec 16) : opOf (commandWord op a1 a0) = op := by
  refine BitVec.eq_of_getLsbD_eq fun i hi => ?_
  rw [opOf, BitVec.getLsbD_extractLsb', getLsbD_commandWord, if_neg (by omega), if_neg (by omega)]
  simp [hi]

@[simp] theorem arg1Of_commandWord (op a1 : BitVec 8) (a0 : BitVec 16) : arg1Of (commandWord op a1 a0) = a1 := by
  refine BitVec.eq_of_getLsbD_eq fun i hi => ?_
  rw [arg1Of, BitVec.getLsbD_extractLsb', getLsbD_commandWord, if_neg (by omega), if_pos (by omega)]
  simp [hi]

@[simp] theorem tagOf_commandWord (op a1 : BitVec 8) (a0 : BitVec 16) :
    tagOf (commandWord op a1 a0) = a0.extractLsb' 0 4 := by
  refine BitVec.eq_of_getLsbD_eq fun i hi => ?_
  rw [tagOf, BitVec.getLsbD_extractLsb', getLsbD_commandWord, if_pos (by omega), BitVec.getLsbD_extractLsb']

end Sys2Proof
end

