-- ==== Sys2Proof/Laws/Ecc.lean ====
section
/-! SUPPORT. What the correction function can answer (41_error_correction.md R174). -/

namespace Sys2Proof.Machine

/-- A found pattern is one of the list and its flip has syndrome 0. -/
theorem findPattern_some {w e : Word} {ps : List Word} (h : findPattern w ps = some e) :
    e ∈ ps ∧ syn (w ^^^ e) = 0#10 :=
  ⟨List.mem_of_find?_eq_some h, by simpa using List.find?_some h⟩

/-- When no pattern is found, no flip of the list has syndrome 0. -/
theorem findPattern_none {w : Word} {ps : List Word} (h : findPattern w ps = none) :
    ∀ e ∈ ps, syn (w ^^^ e) ≠ 0#10 := by
  intro e he
  have := List.find?_eq_none.mp h e he
  simpa using this

/-- What the BCH stages can answer: no error, one flip, two flips, or uncorrectable. -/
theorem bchStage_cases (w : Word) :
    (syn w = 0#10 ∧ bchStage w = { w1 := w, n := 0#2, unc := false }) ∨
    (syn w ≠ 0#10 ∧ ∃ e ∈ singlePatterns, syn (w ^^^ e) = 0#10 ∧
      bchStage w = { w1 := w ^^^ e, n := 1#2, unc := false }) ∨
    (syn w ≠ 0#10 ∧ (∀ e ∈ singlePatterns, syn (w ^^^ e) ≠ 0#10) ∧ ∃ e ∈ doublePatterns, syn (w ^^^ e) = 0#10 ∧
      bchStage w = { w1 := w ^^^ e, n := 2#2, unc := false }) ∨
    (syn w ≠ 0#10 ∧ (∀ e ∈ singlePatterns, syn (w ^^^ e) ≠ 0#10) ∧ (∀ e ∈ doublePatterns, syn (w ^^^ e) ≠ 0#10) ∧
      bchStage w = { w1 := w, n := 0#2, unc := true }) := by
  by_cases h0 : syn w = 0#10
  · exact .inl ⟨h0, by simp [bchStage, h0]⟩
  · refine .inr ?_
    cases h1 : findPattern w singlePatterns with
    | some e =>
      obtain ⟨he, hs⟩ := findPattern_some h1
      exact .inl ⟨h0, e, he, hs, by simp [bchStage, h0, h1]⟩
    | none =>
      refine .inr ?_
      have n1 := findPattern_none h1
      cases h2 : findPattern w doublePatterns with
      | some e =>
        obtain ⟨he, hs⟩ := findPattern_some h2
        exact .inl ⟨h0, n1, e, he, hs, by simp [bchStage, h0, h1, h2]⟩
      | none => exact .inr ⟨h0, n1, findPattern_none h2, by simp [bchStage, h0, h1, h2]⟩

/-- The weight-1 patterns are e(j), j in 0..30. -/
theorem mem_singlePatterns {e : Word} : e ∈ singlePatterns ↔ ∃ j < 31, seqMask j = e := by
  simp [singlePatterns]

/-- The weight-2 patterns are e(i) xor e(j), i < j in 0..30. -/
theorem mem_doublePatterns {e : Word} : e ∈ doublePatterns ↔ ∃ j < 31, ∃ i < j, seqMask i ^^^ seqMask j = e := by
  simp [doublePatterns]

theorem correctWord_s0 (w : Word) : (correctWord w).s0 = syn w := rfl

theorem correctWord_unc (w : Word) : (correctWord w).unc = (bchStage w).unc := rfl

theorem correctWord_pflip (w : Word) : (correctWord w).pflip = parityFlip w (bchStage w).w1 := rfl

theorem correctWord_w2 (w : Word) :
    (correctWord w).w2 = if parityFlip w (bchStage w).w1 then (bchStage w).w1 ^^^ 1#32 else (bchStage w).w1 := rfl

theorem correctWord_n (w : Word) :
    (correctWord w).n = if parityFlip w (bchStage w).w1 then 1#2 else (bchStage w).n := rfl

/-- POK is the final parity (41_error_correction.md R174). -/
theorem correctWord_pok (w : Word) : (correctWord w).pok = parityOk (correctWord w).w2 := rfl

/-- VALID is the conjunction of 90_conflicts.md C3. -/
theorem correctWord_valid (w : Word) : (correctWord w).valid = (!(correctWord w).unc && (correctWord w).pok) := rfl

/-- Outside syndrome 0 the parity bit is never flipped. -/
theorem parityFlip_of_syn_ne {w w1 : Word} (h : syn w ≠ 0#10) : parityFlip w w1 = false := by
  simp [parityFlip, h]

end Sys2Proof.Machine
end

