-- ==== Sys2Proof/Laws/State.lean ====
section
/-! SUPPORT. One lemma per field per named update of the state, true by rfl: no later proof unfolds a record update. -/

namespace Sys2Proof.Machine

/-! ### setResults -/

@[simp] theorem setResults_params (r0 r1 : Word) (s : State) : (setResults r0 r1 s).params = s.params := rfl
@[simp] theorem setResults_agenda (r0 r1 : Word) (s : State) : (setResults r0 r1 s).agenda = s.agenda := rfl
@[simp] theorem setResults_rdata (r0 r1 : Word) (s : State) : (setResults r0 r1 s).rdata = s.rdata := rfl
@[simp] theorem setResults_opa (r0 r1 : Word) (s : State) : (setResults r0 r1 s).opa = s.opa := rfl
@[simp] theorem setResults_res0 (r0 r1 : Word) (s : State) : (setResults r0 r1 s).res0 = r0 := rfl
@[simp] theorem setResults_res1 (r0 r1 : Word) (s : State) : (setResults r0 r1 s).res1 = r1 := rfl
@[simp] theorem setResults_len (r0 r1 : Word) (s : State) : (setResults r0 r1 s).len = s.len := rfl
@[simp] theorem setResults_bufaddr (r0 r1 : Word) (s : State) : (setResults r0 r1 s).bufaddr = s.bufaddr := rfl
@[simp] theorem setResults_stSync (r0 r1 : Word) (s : State) : (setResults r0 r1 s).stSync = s.stSync := rfl
@[simp] theorem setResults_stDone (r0 r1 : Word) (s : State) : (setResults r0 r1 s).stDone = s.stDone := rfl
@[simp] theorem setResults_stNosync (r0 r1 : Word) (s : State) : (setResults r0 r1 s).stNosync = s.stNosync := rfl
@[simp] theorem setResults_stIncomplete (r0 r1 : Word) (s : State) : (setResults r0 r1 s).stIncomplete = s.stIncomplete :=
  rfl
@[simp] theorem setResults_errIllegal (r0 r1 : Word) (s : State) : (setResults r0 r1 s).errIllegal = s.errIllegal := rfl
@[simp] theorem setResults_errBusy (r0 r1 : Word) (s : State) : (setResults r0 r1 s).errBusy = s.errBusy := rfl
@[simp] theorem setResults_errArg (r0 r1 : Word) (s : State) : (setResults r0 r1 s).errArg = s.errArg := rfl
@[simp] theorem setResults_stOrphan (r0 r1 : Word) (s : State) : (setResults r0 r1 s).stOrphan = s.stOrphan := rfl
@[simp] theorem setResults_stUncorr (r0 r1 : Word) (s : State) : (setResults r0 r1 s).stUncorr = s.stUncorr := rfl
@[simp] theorem setResults_statBatch (r0 r1 : Word) (s : State) : (setResults r0 r1 s).statBatch = s.statBatch := rfl
@[simp] theorem setResults_statCw (r0 r1 : Word) (s : State) : (setResults r0 r1 s).statCw = s.statCw := rfl
@[simp] theorem setResults_statFix (r0 r1 : Word) (s : State) : (setResults r0 r1 s).statFix = s.statFix := rfl
@[simp] theorem setResults_statBad (r0 r1 : Word) (s : State) : (setResults r0 r1 s).statBad = s.statBad := rfl
@[simp] theorem setResults_statMsg (r0 r1 : Word) (s : State) : (setResults r0 r1 s).statMsg = s.statMsg := rfl
@[simp] theorem setResults_statOrph (r0 r1 : Word) (s : State) : (setResults r0 r1 s).statOrph = s.statOrph := rfl
@[simp] theorem setResults_estate (r0 r1 : Word) (s : State) : (setResults r0 r1 s).estate = s.estate := rfl
@[simp] theorem setResults_scanP (r0 r1 : Word) (s : State) : (setResults r0 r1 s).scanP = s.scanP := rfl
@[simp] theorem setResults_cwK (r0 r1 : Word) (s : State) : (setResults r0 r1 s).cwK = s.cwK := rfl
@[simp] theorem setResults_runBatch (r0 r1 : Word) (s : State) : (setResults r0 r1 s).runBatch = s.runBatch := rfl
@[simp] theorem setResults_jobW (r0 r1 : Word) (s : State) : (setResults r0 r1 s).jobW = s.jobW := rfl
@[simp] theorem setResults_jobI (r0 r1 : Word) (s : State) : (setResults r0 r1 s).jobI = s.jobI := rfl
@[simp] theorem setResults_openF (r0 r1 : Word) (s : State) : (setResults r0 r1 s).openF = s.openF := rfl
@[simp] theorem setResults_slotRW (r0 r1 : Word) (s : State) : (setResults r0 r1 s).slotRW = s.slotRW := rfl
@[simp] theorem setResults_slotMV (r0 r1 : Word) (s : State) : (setResults r0 r1 s).slotMV = s.slotMV := rfl
@[simp] theorem setResults_slotPcnt (r0 r1 : Word) (s : State) : (setResults r0 r1 s).slotPcnt = s.slotPcnt := rfl
@[simp] theorem setResults_ibb (r0 r1 : Word) (s : State) : (setResults r0 r1 s).ibb = s.ibb := rfl
@[simp] theorem setResults_fifo (r0 r1 : Word) (s : State) : (setResults r0 r1 s).fifo = s.fifo := rfl

/-! ### push -/

@[simp] theorem push_params (r : Record) (s : State) : (push r s).params = s.params := rfl
@[simp] theorem push_agenda (r : Record) (s : State) : (push r s).agenda = s.agenda := rfl
@[simp] theorem push_rdata (r : Record) (s : State) : (push r s).rdata = s.rdata := rfl
@[simp] theorem push_opa (r : Record) (s : State) : (push r s).opa = s.opa := rfl
@[simp] theorem push_res0 (r : Record) (s : State) : (push r s).res0 = s.res0 := rfl
@[simp] theorem push_res1 (r : Record) (s : State) : (push r s).res1 = s.res1 := rfl
@[simp] theorem push_len (r : Record) (s : State) : (push r s).len = s.len := rfl
@[simp] theorem push_bufaddr (r : Record) (s : State) : (push r s).bufaddr = s.bufaddr := rfl
@[simp] theorem push_stSync (r : Record) (s : State) : (push r s).stSync = s.stSync := rfl
@[simp] theorem push_stDone (r : Record) (s : State) : (push r s).stDone = s.stDone := rfl
@[simp] theorem push_stNosync (r : Record) (s : State) : (push r s).stNosync = s.stNosync := rfl
@[simp] theorem push_stIncomplete (r : Record) (s : State) : (push r s).stIncomplete = s.stIncomplete := rfl
@[simp] theorem push_errIllegal (r : Record) (s : State) : (push r s).errIllegal = s.errIllegal := rfl
@[simp] theorem push_errBusy (r : Record) (s : State) : (push r s).errBusy = s.errBusy := rfl
@[simp] theorem push_errArg (r : Record) (s : State) : (push r s).errArg = s.errArg := rfl
@[simp] theorem push_stOrphan (r : Record) (s : State) : (push r s).stOrphan = s.stOrphan := rfl
@[simp] theorem push_stUncorr (r : Record) (s : State) : (push r s).stUncorr = s.stUncorr := rfl
@[simp] theorem push_statBatch (r : Record) (s : State) : (push r s).statBatch = s.statBatch := rfl
@[simp] theorem push_statCw (r : Record) (s : State) : (push r s).statCw = s.statCw := rfl
@[simp] theorem push_statFix (r : Record) (s : State) : (push r s).statFix = s.statFix := rfl
@[simp] theorem push_statBad (r : Record) (s : State) : (push r s).statBad = s.statBad := rfl
@[simp] theorem push_statMsg (r : Record) (s : State) : (push r s).statMsg = s.statMsg := rfl
@[simp] theorem push_statOrph (r : Record) (s : State) : (push r s).statOrph = s.statOrph := rfl
@[simp] theorem push_estate (r : Record) (s : State) : (push r s).estate = s.estate := rfl
@[simp] theorem push_scanP (r : Record) (s : State) : (push r s).scanP = s.scanP := rfl
@[simp] theorem push_cwK (r : Record) (s : State) : (push r s).cwK = s.cwK := rfl
@[simp] theorem push_runBatch (r : Record) (s : State) : (push r s).runBatch = s.runBatch := rfl
@[simp] theorem push_jobW (r : Record) (s : State) : (push r s).jobW = s.jobW := rfl
@[simp] theorem push_jobI (r : Record) (s : State) : (push r s).jobI = s.jobI := rfl
@[simp] theorem push_openF (r : Record) (s : State) : (push r s).openF = s.openF := rfl
@[simp] theorem push_slotRW (r : Record) (s : State) : (push r s).slotRW = s.slotRW := rfl
@[simp] theorem push_slotMV (r : Record) (s : State) : (push r s).slotMV = s.slotMV := rfl
@[simp] theorem push_slotPcnt (r : Record) (s : State) : (push r s).slotPcnt = s.slotPcnt := rfl
@[simp] theorem push_ibb (r : Record) (s : State) : (push r s).ibb = s.ibb := rfl
@[simp] theorem push_fifo (r : Record) (s : State) : (push r s).fifo = s.fifo ++ [r] := rfl

/-! ### pop -/

@[simp] theorem pop_params (s : State) : (pop s).params = s.params := rfl
@[simp] theorem pop_agenda (s : State) : (pop s).agenda = s.agenda := rfl
@[simp] theorem pop_rdata (s : State) : (pop s).rdata = s.rdata := rfl
@[simp] theorem pop_opa (s : State) : (pop s).opa = s.opa := rfl
@[simp] theorem pop_res0 (s : State) : (pop s).res0 = s.res0 := rfl
@[simp] theorem pop_res1 (s : State) : (pop s).res1 = s.res1 := rfl
@[simp] theorem pop_len (s : State) : (pop s).len = s.len := rfl
@[simp] theorem pop_bufaddr (s : State) : (pop s).bufaddr = s.bufaddr := rfl
@[simp] theorem pop_stSync (s : State) : (pop s).stSync = s.stSync := rfl
@[simp] theorem pop_stDone (s : State) : (pop s).stDone = s.stDone := rfl
@[simp] theorem pop_stNosync (s : State) : (pop s).stNosync = s.stNosync := rfl
@[simp] theorem pop_stIncomplete (s : State) : (pop s).stIncomplete = s.stIncomplete := rfl
@[simp] theorem pop_errIllegal (s : State) : (pop s).errIllegal = s.errIllegal := rfl
@[simp] theorem pop_errBusy (s : State) : (pop s).errBusy = s.errBusy := rfl
@[simp] theorem pop_errArg (s : State) : (pop s).errArg = s.errArg := rfl
@[simp] theorem pop_stOrphan (s : State) : (pop s).stOrphan = s.stOrphan := rfl
@[simp] theorem pop_stUncorr (s : State) : (pop s).stUncorr = s.stUncorr := rfl
@[simp] theorem pop_statBatch (s : State) : (pop s).statBatch = s.statBatch := rfl
@[simp] theorem pop_statCw (s : State) : (pop s).statCw = s.statCw := rfl
@[simp] theorem pop_statFix (s : State) : (pop s).statFix = s.statFix := rfl
@[simp] theorem pop_statBad (s : State) : (pop s).statBad = s.statBad := rfl
@[simp] theorem pop_statMsg (s : State) : (pop s).statMsg = s.statMsg := rfl
@[simp] theorem pop_statOrph (s : State) : (pop s).statOrph = s.statOrph := rfl
@[simp] theorem pop_estate (s : State) : (pop s).estate = s.estate := rfl
@[simp] theorem pop_scanP (s : State) : (pop s).scanP = s.scanP := rfl
@[simp] theorem pop_cwK (s : State) : (pop s).cwK = s.cwK := rfl
@[simp] theorem pop_runBatch (s : State) : (pop s).runBatch = s.runBatch := rfl
@[simp] theorem pop_jobW (s : State) : (pop s).jobW = s.jobW := rfl
@[simp] theorem pop_jobI (s : State) : (pop s).jobI = s.jobI := rfl
@[simp] theorem pop_openF (s : State) : (pop s).openF = s.openF := rfl
@[simp] theorem pop_slotRW (s : State) : (pop s).slotRW = s.slotRW := rfl
@[simp] theorem pop_slotMV (s : State) : (pop s).slotMV = s.slotMV := rfl
@[simp] theorem pop_slotPcnt (s : State) : (pop s).slotPcnt = s.slotPcnt := rfl
@[simp] theorem pop_ibb (s : State) : (pop s).ibb = s.ibb := rfl
@[simp] theorem pop_fifo (s : State) : (pop s).fifo = s.fifo.tail := rfl

/-! ### answer -/

@[simp] theorem answer_params (v : Word) (s : State) : (answer v s).params = s.params := rfl
@[simp] theorem answer_agenda (v : Word) (s : State) : (answer v s).agenda = s.agenda := rfl
@[simp] theorem answer_rdata (v : Word) (s : State) : (answer v s).rdata = v := rfl
@[simp] theorem answer_opa (v : Word) (s : State) : (answer v s).opa = s.opa := rfl
@[simp] theorem answer_res0 (v : Word) (s : State) : (answer v s).res0 = s.res0 := rfl
@[simp] theorem answer_res1 (v : Word) (s : State) : (answer v s).res1 = s.res1 := rfl
@[simp] theorem answer_len (v : Word) (s : State) : (answer v s).len = s.len := rfl
@[simp] theorem answer_bufaddr (v : Word) (s : State) : (answer v s).bufaddr = s.bufaddr := rfl
@[simp] theorem answer_stSync (v : Word) (s : State) : (answer v s).stSync = s.stSync := rfl
@[simp] theorem answer_stDone (v : Word) (s : State) : (answer v s).stDone = s.stDone := rfl
@[simp] theorem answer_stNosync (v : Word) (s : State) : (answer v s).stNosync = s.stNosync := rfl
@[simp] theorem answer_stIncomplete (v : Word) (s : State) : (answer v s).stIncomplete = s.stIncomplete := rfl
@[simp] theorem answer_errIllegal (v : Word) (s : State) : (answer v s).errIllegal = s.errIllegal := rfl
@[simp] theorem answer_errBusy (v : Word) (s : State) : (answer v s).errBusy = s.errBusy := rfl
@[simp] theorem answer_errArg (v : Word) (s : State) : (answer v s).errArg = s.errArg := rfl
@[simp] theorem answer_stOrphan (v : Word) (s : State) : (answer v s).stOrphan = s.stOrphan := rfl
@[simp] theorem answer_stUncorr (v : Word) (s : State) : (answer v s).stUncorr = s.stUncorr := rfl
@[simp] theorem answer_statBatch (v : Word) (s : State) : (answer v s).statBatch = s.statBatch := rfl
@[simp] theorem answer_statCw (v : Word) (s : State) : (answer v s).statCw = s.statCw := rfl
@[simp] theorem answer_statFix (v : Word) (s : State) : (answer v s).statFix = s.statFix := rfl
@[simp] theorem answer_statBad (v : Word) (s : State) : (answer v s).statBad = s.statBad := rfl
@[simp] theorem answer_statMsg (v : Word) (s : State) : (answer v s).statMsg = s.statMsg := rfl
@[simp] theorem answer_statOrph (v : Word) (s : State) : (answer v s).statOrph = s.statOrph := rfl
@[simp] theorem answer_estate (v : Word) (s : State) : (answer v s).estate = s.estate := rfl
@[simp] theorem answer_scanP (v : Word) (s : State) : (answer v s).scanP = s.scanP := rfl
@[simp] theorem answer_cwK (v : Word) (s : State) : (answer v s).cwK = s.cwK := rfl
@[simp] theorem answer_runBatch (v : Word) (s : State) : (answer v s).runBatch = s.runBatch := rfl
@[simp] theorem answer_jobW (v : Word) (s : State) : (answer v s).jobW = s.jobW := rfl
@[simp] theorem answer_jobI (v : Word) (s : State) : (answer v s).jobI = s.jobI := rfl
@[simp] theorem answer_openF (v : Word) (s : State) : (answer v s).openF = s.openF := rfl
@[simp] theorem answer_slotRW (v : Word) (s : State) : (answer v s).slotRW = s.slotRW := rfl
@[simp] theorem answer_slotMV (v : Word) (s : State) : (answer v s).slotMV = s.slotMV := rfl
@[simp] theorem answer_slotPcnt (v : Word) (s : State) : (answer v s).slotPcnt = s.slotPcnt := rfl
@[simp] theorem answer_ibb (v : Word) (s : State) : (answer v s).ibb = s.ibb := rfl
@[simp] theorem answer_fifo (v : Word) (s : State) : (answer v s).fifo = s.fifo := rfl

/-! ### setEstate -/

@[simp] theorem setEstate_params (e : EState) (s : State) : (setEstate e s).params = s.params := rfl
@[simp] theorem setEstate_agenda (e : EState) (s : State) : (setEstate e s).agenda = s.agenda := rfl
@[simp] theorem setEstate_rdata (e : EState) (s : State) : (setEstate e s).rdata = s.rdata := rfl
@[simp] theorem setEstate_opa (e : EState) (s : State) : (setEstate e s).opa = s.opa := rfl
@[simp] theorem setEstate_res0 (e : EState) (s : State) : (setEstate e s).res0 = s.res0 := rfl
@[simp] theorem setEstate_res1 (e : EState) (s : State) : (setEstate e s).res1 = s.res1 := rfl
@[simp] theorem setEstate_len (e : EState) (s : State) : (setEstate e s).len = s.len := rfl
@[simp] theorem setEstate_bufaddr (e : EState) (s : State) : (setEstate e s).bufaddr = s.bufaddr := rfl
@[simp] theorem setEstate_stSync (e : EState) (s : State) : (setEstate e s).stSync = s.stSync := rfl
@[simp] theorem setEstate_stDone (e : EState) (s : State) : (setEstate e s).stDone = s.stDone := rfl
@[simp] theorem setEstate_stNosync (e : EState) (s : State) : (setEstate e s).stNosync = s.stNosync := rfl
@[simp] theorem setEstate_stIncomplete (e : EState) (s : State) : (setEstate e s).stIncomplete = s.stIncomplete := rfl
@[simp] theorem setEstate_errIllegal (e : EState) (s : State) : (setEstate e s).errIllegal = s.errIllegal := rfl
@[simp] theorem setEstate_errBusy (e : EState) (s : State) : (setEstate e s).errBusy = s.errBusy := rfl
@[simp] theorem setEstate_errArg (e : EState) (s : State) : (setEstate e s).errArg = s.errArg := rfl
@[simp] theorem setEstate_stOrphan (e : EState) (s : State) : (setEstate e s).stOrphan = s.stOrphan := rfl
@[simp] theorem setEstate_stUncorr (e : EState) (s : State) : (setEstate e s).stUncorr = s.stUncorr := rfl
@[simp] theorem setEstate_statBatch (e : EState) (s : State) : (setEstate e s).statBatch = s.statBatch := rfl
@[simp] theorem setEstate_statCw (e : EState) (s : State) : (setEstate e s).statCw = s.statCw := rfl
@[simp] theorem setEstate_statFix (e : EState) (s : State) : (setEstate e s).statFix = s.statFix := rfl
@[simp] theorem setEstate_statBad (e : EState) (s : State) : (setEstate e s).statBad = s.statBad := rfl
@[simp] theorem setEstate_statMsg (e : EState) (s : State) : (setEstate e s).statMsg = s.statMsg := rfl
@[simp] theorem setEstate_statOrph (e : EState) (s : State) : (setEstate e s).statOrph = s.statOrph := rfl
@[simp] theorem setEstate_estate (e : EState) (s : State) : (setEstate e s).estate = e := rfl
@[simp] theorem setEstate_scanP (e : EState) (s : State) : (setEstate e s).scanP = s.scanP := rfl
@[simp] theorem setEstate_cwK (e : EState) (s : State) : (setEstate e s).cwK = s.cwK := rfl
@[simp] theorem setEstate_runBatch (e : EState) (s : State) : (setEstate e s).runBatch = s.runBatch := rfl
@[simp] theorem setEstate_jobW (e : EState) (s : State) : (setEstate e s).jobW = s.jobW := rfl
@[simp] theorem setEstate_jobI (e : EState) (s : State) : (setEstate e s).jobI = s.jobI := rfl
@[simp] theorem setEstate_openF (e : EState) (s : State) : (setEstate e s).openF = s.openF := rfl
@[simp] theorem setEstate_slotRW (e : EState) (s : State) : (setEstate e s).slotRW = s.slotRW := rfl
@[simp] theorem setEstate_slotMV (e : EState) (s : State) : (setEstate e s).slotMV = s.slotMV := rfl
@[simp] theorem setEstate_slotPcnt (e : EState) (s : State) : (setEstate e s).slotPcnt = s.slotPcnt := rfl
@[simp] theorem setEstate_ibb (e : EState) (s : State) : (setEstate e s).ibb = s.ibb := rfl
@[simp] theorem setEstate_fifo (e : EState) (s : State) : (setEstate e s).fifo = s.fifo := rfl

/-! ### schedule -/

@[simp] theorem schedule_params (es : List PortEvent) (s : State) : (schedule es s).params = s.params := rfl
@[simp] theorem schedule_agenda (es : List PortEvent) (s : State) : (schedule es s).agenda = es ++ s.agenda := rfl
@[simp] theorem schedule_rdata (es : List PortEvent) (s : State) : (schedule es s).rdata = s.rdata := rfl
@[simp] theorem schedule_opa (es : List PortEvent) (s : State) : (schedule es s).opa = s.opa := rfl
@[simp] theorem schedule_res0 (es : List PortEvent) (s : State) : (schedule es s).res0 = s.res0 := rfl
@[simp] theorem schedule_res1 (es : List PortEvent) (s : State) : (schedule es s).res1 = s.res1 := rfl
@[simp] theorem schedule_len (es : List PortEvent) (s : State) : (schedule es s).len = s.len := rfl
@[simp] theorem schedule_bufaddr (es : List PortEvent) (s : State) : (schedule es s).bufaddr = s.bufaddr := rfl
@[simp] theorem schedule_stSync (es : List PortEvent) (s : State) : (schedule es s).stSync = s.stSync := rfl
@[simp] theorem schedule_stDone (es : List PortEvent) (s : State) : (schedule es s).stDone = s.stDone := rfl
@[simp] theorem schedule_stNosync (es : List PortEvent) (s : State) : (schedule es s).stNosync = s.stNosync := rfl
@[simp] theorem schedule_stIncomplete (es : List PortEvent) (s : State) : (schedule es s).stIncomplete = s.stIncomplete :=
  rfl
@[simp] theorem schedule_errIllegal (es : List PortEvent) (s : State) : (schedule es s).errIllegal = s.errIllegal := rfl
@[simp] theorem schedule_errBusy (es : List PortEvent) (s : State) : (schedule es s).errBusy = s.errBusy := rfl
@[simp] theorem schedule_errArg (es : List PortEvent) (s : State) : (schedule es s).errArg = s.errArg := rfl
@[simp] theorem schedule_stOrphan (es : List PortEvent) (s : State) : (schedule es s).stOrphan = s.stOrphan := rfl
@[simp] theorem schedule_stUncorr (es : List PortEvent) (s : State) : (schedule es s).stUncorr = s.stUncorr := rfl
@[simp] theorem schedule_statBatch (es : List PortEvent) (s : State) : (schedule es s).statBatch = s.statBatch := rfl
@[simp] theorem schedule_statCw (es : List PortEvent) (s : State) : (schedule es s).statCw = s.statCw := rfl
@[simp] theorem schedule_statFix (es : List PortEvent) (s : State) : (schedule es s).statFix = s.statFix := rfl
@[simp] theorem schedule_statBad (es : List PortEvent) (s : State) : (schedule es s).statBad = s.statBad := rfl
@[simp] theorem schedule_statMsg (es : List PortEvent) (s : State) : (schedule es s).statMsg = s.statMsg := rfl
@[simp] theorem schedule_statOrph (es : List PortEvent) (s : State) : (schedule es s).statOrph = s.statOrph := rfl
@[simp] theorem schedule_estate (es : List PortEvent) (s : State) : (schedule es s).estate = s.estate := rfl
@[simp] theorem schedule_scanP (es : List PortEvent) (s : State) : (schedule es s).scanP = s.scanP := rfl
@[simp] theorem schedule_cwK (es : List PortEvent) (s : State) : (schedule es s).cwK = s.cwK := rfl
@[simp] theorem schedule_runBatch (es : List PortEvent) (s : State) : (schedule es s).runBatch = s.runBatch := rfl
@[simp] theorem schedule_jobW (es : List PortEvent) (s : State) : (schedule es s).jobW = s.jobW := rfl
@[simp] theorem schedule_jobI (es : List PortEvent) (s : State) : (schedule es s).jobI = s.jobI := rfl
@[simp] theorem schedule_openF (es : List PortEvent) (s : State) : (schedule es s).openF = s.openF := rfl
@[simp] theorem schedule_slotRW (es : List PortEvent) (s : State) : (schedule es s).slotRW = s.slotRW := rfl
@[simp] theorem schedule_slotMV (es : List PortEvent) (s : State) : (schedule es s).slotMV = s.slotMV := rfl
@[simp] theorem schedule_slotPcnt (es : List PortEvent) (s : State) : (schedule es s).slotPcnt = s.slotPcnt := rfl
@[simp] theorem schedule_ibb (es : List PortEvent) (s : State) : (schedule es s).ibb = s.ibb := rfl
@[simp] theorem schedule_fifo (es : List PortEvent) (s : State) : (schedule es s).fifo = s.fifo := rfl

/-! ### bumpBufaddr -/

@[simp] theorem bumpBufaddr_params (s : State) : (bumpBufaddr s).params = s.params := rfl
@[simp] theorem bumpBufaddr_agenda (s : State) : (bumpBufaddr s).agenda = s.agenda := rfl
@[simp] theorem bumpBufaddr_rdata (s : State) : (bumpBufaddr s).rdata = s.rdata := rfl
@[simp] theorem bumpBufaddr_opa (s : State) : (bumpBufaddr s).opa = s.opa := rfl
@[simp] theorem bumpBufaddr_res0 (s : State) : (bumpBufaddr s).res0 = s.res0 := rfl
@[simp] theorem bumpBufaddr_res1 (s : State) : (bumpBufaddr s).res1 = s.res1 := rfl
@[simp] theorem bumpBufaddr_len (s : State) : (bumpBufaddr s).len = s.len := rfl
@[simp] theorem bumpBufaddr_bufaddr (s : State) : (bumpBufaddr s).bufaddr = BitVec.ofNat 32 ((s.bufaddr.toNat + 1) % s.params.bufWords) :=
  rfl
@[simp] theorem bumpBufaddr_stSync (s : State) : (bumpBufaddr s).stSync = s.stSync := rfl
@[simp] theorem bumpBufaddr_stDone (s : State) : (bumpBufaddr s).stDone = s.stDone := rfl
@[simp] theorem bumpBufaddr_stNosync (s : State) : (bumpBufaddr s).stNosync = s.stNosync := rfl
@[simp] theorem bumpBufaddr_stIncomplete (s : State) : (bumpBufaddr s).stIncomplete = s.stIncomplete := rfl
@[simp] theorem bumpBufaddr_errIllegal (s : State) : (bumpBufaddr s).errIllegal = s.errIllegal := rfl
@[simp] theorem bumpBufaddr_errBusy (s : State) : (bumpBufaddr s).errBusy = s.errBusy := rfl
@[simp] theorem bumpBufaddr_errArg (s : State) : (bumpBufaddr s).errArg = s.errArg := rfl
@[simp] theorem bumpBufaddr_stOrphan (s : State) : (bumpBufaddr s).stOrphan = s.stOrphan := rfl
@[simp] theorem bumpBufaddr_stUncorr (s : State) : (bumpBufaddr s).stUncorr = s.stUncorr := rfl
@[simp] theorem bumpBufaddr_statBatch (s : State) : (bumpBufaddr s).statBatch = s.statBatch := rfl
@[simp] theorem bumpBufaddr_statCw (s : State) : (bumpBufaddr s).statCw = s.statCw := rfl
@[simp] theorem bumpBufaddr_statFix (s : State) : (bumpBufaddr s).statFix = s.statFix := rfl
@[simp] theorem bumpBufaddr_statBad (s : State) : (bumpBufaddr s).statBad = s.statBad := rfl
@[simp] theorem bumpBufaddr_statMsg (s : State) : (bumpBufaddr s).statMsg = s.statMsg := rfl
@[simp] theorem bumpBufaddr_statOrph (s : State) : (bumpBufaddr s).statOrph = s.statOrph := rfl
@[simp] theorem bumpBufaddr_estate (s : State) : (bumpBufaddr s).estate = s.estate := rfl
@[simp] theorem bumpBufaddr_scanP (s : State) : (bumpBufaddr s).scanP = s.scanP := rfl
@[simp] theorem bumpBufaddr_cwK (s : State) : (bumpBufaddr s).cwK = s.cwK := rfl
@[simp] theorem bumpBufaddr_runBatch (s : State) : (bumpBufaddr s).runBatch = s.runBatch := rfl
@[simp] theorem bumpBufaddr_jobW (s : State) : (bumpBufaddr s).jobW = s.jobW := rfl
@[simp] theorem bumpBufaddr_jobI (s : State) : (bumpBufaddr s).jobI = s.jobI := rfl
@[simp] theorem bumpBufaddr_openF (s : State) : (bumpBufaddr s).openF = s.openF := rfl
@[simp] theorem bumpBufaddr_slotRW (s : State) : (bumpBufaddr s).slotRW = s.slotRW := rfl
@[simp] theorem bumpBufaddr_slotMV (s : State) : (bumpBufaddr s).slotMV = s.slotMV := rfl
@[simp] theorem bumpBufaddr_slotPcnt (s : State) : (bumpBufaddr s).slotPcnt = s.slotPcnt := rfl
@[simp] theorem bumpBufaddr_ibb (s : State) : (bumpBufaddr s).ibb = s.ibb := rfl
@[simp] theorem bumpBufaddr_fifo (s : State) : (bumpBufaddr s).fifo = s.fifo := rfl

/-! ### closeMsg -/

@[simp] theorem closeMsg_params (c : CloseReason) (s : State) : (closeMsg c s).params = s.params := rfl
@[simp] theorem closeMsg_agenda (c : CloseReason) (s : State) : (closeMsg c s).agenda = s.agenda := rfl
@[simp] theorem closeMsg_rdata (c : CloseReason) (s : State) : (closeMsg c s).rdata = s.rdata := rfl
@[simp] theorem closeMsg_opa (c : CloseReason) (s : State) : (closeMsg c s).opa = s.opa := rfl
@[simp] theorem closeMsg_res0 (c : CloseReason) (s : State) : (closeMsg c s).res0 = s.res0 := rfl
@[simp] theorem closeMsg_res1 (c : CloseReason) (s : State) : (closeMsg c s).res1 = s.res1 := rfl
@[simp] theorem closeMsg_len (c : CloseReason) (s : State) : (closeMsg c s).len = s.len := rfl
@[simp] theorem closeMsg_bufaddr (c : CloseReason) (s : State) : (closeMsg c s).bufaddr = s.bufaddr := rfl
@[simp] theorem closeMsg_stSync (c : CloseReason) (s : State) : (closeMsg c s).stSync = s.stSync := rfl
@[simp] theorem closeMsg_stDone (c : CloseReason) (s : State) : (closeMsg c s).stDone = s.stDone := rfl
@[simp] theorem closeMsg_stNosync (c : CloseReason) (s : State) : (closeMsg c s).stNosync = s.stNosync := rfl
@[simp] theorem closeMsg_stIncomplete (c : CloseReason) (s : State) : (closeMsg c s).stIncomplete = s.stIncomplete :=
  rfl
@[simp] theorem closeMsg_errIllegal (c : CloseReason) (s : State) : (closeMsg c s).errIllegal = s.errIllegal := rfl
@[simp] theorem closeMsg_errBusy (c : CloseReason) (s : State) : (closeMsg c s).errBusy = s.errBusy := rfl
@[simp] theorem closeMsg_errArg (c : CloseReason) (s : State) : (closeMsg c s).errArg = s.errArg := rfl
@[simp] theorem closeMsg_stOrphan (c : CloseReason) (s : State) : (closeMsg c s).stOrphan = s.stOrphan := rfl
@[simp] theorem closeMsg_stUncorr (c : CloseReason) (s : State) : (closeMsg c s).stUncorr = s.stUncorr := rfl
@[simp] theorem closeMsg_statBatch (c : CloseReason) (s : State) : (closeMsg c s).statBatch = s.statBatch := rfl
@[simp] theorem closeMsg_statCw (c : CloseReason) (s : State) : (closeMsg c s).statCw = s.statCw := rfl
@[simp] theorem closeMsg_statFix (c : CloseReason) (s : State) : (closeMsg c s).statFix = s.statFix := rfl
@[simp] theorem closeMsg_statBad (c : CloseReason) (s : State) : (closeMsg c s).statBad = s.statBad := rfl
@[simp] theorem closeMsg_statMsg (c : CloseReason) (s : State) : (closeMsg c s).statMsg = s.statMsg + 1#32 := rfl
@[simp] theorem closeMsg_statOrph (c : CloseReason) (s : State) : (closeMsg c s).statOrph = s.statOrph := rfl
@[simp] theorem closeMsg_estate (c : CloseReason) (s : State) : (closeMsg c s).estate = s.estate := rfl
@[simp] theorem closeMsg_scanP (c : CloseReason) (s : State) : (closeMsg c s).scanP = s.scanP := rfl
@[simp] theorem closeMsg_cwK (c : CloseReason) (s : State) : (closeMsg c s).cwK = s.cwK := rfl
@[simp] theorem closeMsg_runBatch (c : CloseReason) (s : State) : (closeMsg c s).runBatch = s.runBatch := rfl
@[simp] theorem closeMsg_jobW (c : CloseReason) (s : State) : (closeMsg c s).jobW = s.jobW := rfl
@[simp] theorem closeMsg_jobI (c : CloseReason) (s : State) : (closeMsg c s).jobI = s.jobI := rfl
@[simp] theorem closeMsg_openF (c : CloseReason) (s : State) : (closeMsg c s).openF = false := rfl
@[simp] theorem closeMsg_slotRW (c : CloseReason) (s : State) : (closeMsg c s).slotRW = s.slotRW := rfl
@[simp] theorem closeMsg_slotMV (c : CloseReason) (s : State) : (closeMsg c s).slotMV = s.slotMV := rfl
@[simp] theorem closeMsg_slotPcnt (c : CloseReason) (s : State) : (closeMsg c s).slotPcnt = s.slotPcnt := rfl
@[simp] theorem closeMsg_ibb (c : CloseReason) (s : State) : (closeMsg c s).ibb = s.ibb := rfl
@[simp] theorem closeMsg_fifo (c : CloseReason) (s : State) : (closeMsg c s).fifo = s.fifo ++ [closeRecord c s.slotMV s.slotPcnt s.slotRW] :=
  rfl

/-! ### countCodeword -/

@[simp] theorem countCodeword_params (c : Correction) (s : State) : (countCodeword c s).params = s.params := rfl
@[simp] theorem countCodeword_agenda (c : Correction) (s : State) : (countCodeword c s).agenda = s.agenda := rfl
@[simp] theorem countCodeword_rdata (c : Correction) (s : State) : (countCodeword c s).rdata = s.rdata := rfl
@[simp] theorem countCodeword_opa (c : Correction) (s : State) : (countCodeword c s).opa = s.opa := rfl
@[simp] theorem countCodeword_res0 (c : Correction) (s : State) : (countCodeword c s).res0 = s.res0 := rfl
@[simp] theorem countCodeword_res1 (c : Correction) (s : State) : (countCodeword c s).res1 = s.res1 := rfl
@[simp] theorem countCodeword_len (c : Correction) (s : State) : (countCodeword c s).len = s.len := rfl
@[simp] theorem countCodeword_bufaddr (c : Correction) (s : State) : (countCodeword c s).bufaddr = s.bufaddr := rfl
@[simp] theorem countCodeword_stSync (c : Correction) (s : State) : (countCodeword c s).stSync = s.stSync := rfl
@[simp] theorem countCodeword_stDone (c : Correction) (s : State) : (countCodeword c s).stDone = s.stDone := rfl
@[simp] theorem countCodeword_stNosync (c : Correction) (s : State) : (countCodeword c s).stNosync = s.stNosync := rfl
@[simp] theorem countCodeword_stIncomplete (c : Correction) (s : State) : (countCodeword c s).stIncomplete = s.stIncomplete :=
  rfl
@[simp] theorem countCodeword_errIllegal (c : Correction) (s : State) : (countCodeword c s).errIllegal = s.errIllegal :=
  rfl
@[simp] theorem countCodeword_errBusy (c : Correction) (s : State) : (countCodeword c s).errBusy = s.errBusy := rfl
@[simp] theorem countCodeword_errArg (c : Correction) (s : State) : (countCodeword c s).errArg = s.errArg := rfl
@[simp] theorem countCodeword_stOrphan (c : Correction) (s : State) : (countCodeword c s).stOrphan = s.stOrphan := rfl
@[simp] theorem countCodeword_stUncorr (c : Correction) (s : State) : (countCodeword c s).stUncorr = (s.stUncorr || !c.valid) :=
  rfl
@[simp] theorem countCodeword_statBatch (c : Correction) (s : State) : (countCodeword c s).statBatch = s.statBatch :=
  rfl
@[simp] theorem countCodeword_statCw (c : Correction) (s : State) : (countCodeword c s).statCw = s.statCw + 1#32 := rfl
@[simp] theorem countCodeword_statFix (c : Correction) (s : State) : (countCodeword c s).statFix = s.statFix + c.n.setWidth 32 :=
  rfl
@[simp] theorem countCodeword_statBad (c : Correction) (s : State) : (countCodeword c s).statBad = (if c.valid then s.statBad else s.statBad + 1#32) :=
  rfl
@[simp] theorem countCodeword_statMsg (c : Correction) (s : State) : (countCodeword c s).statMsg = s.statMsg := rfl
@[simp] theorem countCodeword_statOrph (c : Correction) (s : State) : (countCodeword c s).statOrph = s.statOrph := rfl
@[simp] theorem countCodeword_estate (c : Correction) (s : State) : (countCodeword c s).estate = s.estate := rfl
@[simp] theorem countCodeword_scanP (c : Correction) (s : State) : (countCodeword c s).scanP = s.scanP := rfl
@[simp] theorem countCodeword_cwK (c : Correction) (s : State) : (countCodeword c s).cwK = s.cwK := rfl
@[simp] theorem countCodeword_runBatch (c : Correction) (s : State) : (countCodeword c s).runBatch = s.runBatch := rfl
@[simp] theorem countCodeword_jobW (c : Correction) (s : State) : (countCodeword c s).jobW = s.jobW := rfl
@[simp] theorem countCodeword_jobI (c : Correction) (s : State) : (countCodeword c s).jobI = s.jobI := rfl
@[simp] theorem countCodeword_openF (c : Correction) (s : State) : (countCodeword c s).openF = s.openF := rfl
@[simp] theorem countCodeword_slotRW (c : Correction) (s : State) : (countCodeword c s).slotRW = s.slotRW := rfl
@[simp] theorem countCodeword_slotMV (c : Correction) (s : State) : (countCodeword c s).slotMV = s.slotMV := rfl
@[simp] theorem countCodeword_slotPcnt (c : Correction) (s : State) : (countCodeword c s).slotPcnt = s.slotPcnt := rfl
@[simp] theorem countCodeword_ibb (c : Correction) (s : State) : (countCodeword c s).ibb = s.ibb := rfl
@[simp] theorem countCodeword_fifo (c : Correction) (s : State) : (countCodeword c s).fifo = s.fifo := rfl

/-! ### startRun -/

@[simp] theorem startRun_params (s : State) : (startRun s).params = s.params := rfl
@[simp] theorem startRun_agenda (s : State) : (startRun s).agenda = s.agenda := rfl
@[simp] theorem startRun_rdata (s : State) : (startRun s).rdata = s.rdata := rfl
@[simp] theorem startRun_opa (s : State) : (startRun s).opa = s.opa := rfl
@[simp] theorem startRun_res0 (s : State) : (startRun s).res0 = s.res0 := rfl
@[simp] theorem startRun_res1 (s : State) : (startRun s).res1 = s.res1 := rfl
@[simp] theorem startRun_len (s : State) : (startRun s).len = s.len := rfl
@[simp] theorem startRun_bufaddr (s : State) : (startRun s).bufaddr = s.bufaddr := rfl
@[simp] theorem startRun_stSync (s : State) : (startRun s).stSync = false := rfl
@[simp] theorem startRun_stDone (s : State) : (startRun s).stDone = false := rfl
@[simp] theorem startRun_stNosync (s : State) : (startRun s).stNosync = false := rfl
@[simp] theorem startRun_stIncomplete (s : State) : (startRun s).stIncomplete = false := rfl
@[simp] theorem startRun_errIllegal (s : State) : (startRun s).errIllegal = s.errIllegal := rfl
@[simp] theorem startRun_errBusy (s : State) : (startRun s).errBusy = s.errBusy := rfl
@[simp] theorem startRun_errArg (s : State) : (startRun s).errArg = s.errArg := rfl
@[simp] theorem startRun_stOrphan (s : State) : (startRun s).stOrphan = s.stOrphan := rfl
@[simp] theorem startRun_stUncorr (s : State) : (startRun s).stUncorr = s.stUncorr := rfl
@[simp] theorem startRun_statBatch (s : State) : (startRun s).statBatch = s.statBatch := rfl
@[simp] theorem startRun_statCw (s : State) : (startRun s).statCw = s.statCw := rfl
@[simp] theorem startRun_statFix (s : State) : (startRun s).statFix = s.statFix := rfl
@[simp] theorem startRun_statBad (s : State) : (startRun s).statBad = s.statBad := rfl
@[simp] theorem startRun_statMsg (s : State) : (startRun s).statMsg = s.statMsg := rfl
@[simp] theorem startRun_statOrph (s : State) : (startRun s).statOrph = s.statOrph := rfl
@[simp] theorem startRun_estate (s : State) : (startRun s).estate = .start := rfl
@[simp] theorem startRun_scanP (s : State) : (startRun s).scanP = 0 := rfl
@[simp] theorem startRun_cwK (s : State) : (startRun s).cwK = 0#4 := rfl
@[simp] theorem startRun_runBatch (s : State) : (startRun s).runBatch = 0#32 := rfl
@[simp] theorem startRun_jobW (s : State) : (startRun s).jobW = s.jobW := rfl
@[simp] theorem startRun_jobI (s : State) : (startRun s).jobI = s.jobI := rfl
@[simp] theorem startRun_openF (s : State) : (startRun s).openF = s.openF := rfl
@[simp] theorem startRun_slotRW (s : State) : (startRun s).slotRW = s.slotRW := rfl
@[simp] theorem startRun_slotMV (s : State) : (startRun s).slotMV = s.slotMV := rfl
@[simp] theorem startRun_slotPcnt (s : State) : (startRun s).slotPcnt = s.slotPcnt := rfl
@[simp] theorem startRun_ibb (s : State) : (startRun s).ibb = s.ibb := rfl
@[simp] theorem startRun_fifo (s : State) : (startRun s).fifo = s.fifo := rfl

/-! ### clearStats -/

@[simp] theorem clearStats_params (s : State) : (clearStats s).params = s.params := rfl
@[simp] theorem clearStats_agenda (s : State) : (clearStats s).agenda = s.agenda := rfl
@[simp] theorem clearStats_rdata (s : State) : (clearStats s).rdata = s.rdata := rfl
@[simp] theorem clearStats_opa (s : State) : (clearStats s).opa = s.opa := rfl
@[simp] theorem clearStats_res0 (s : State) : (clearStats s).res0 = s.res0 := rfl
@[simp] theorem clearStats_res1 (s : State) : (clearStats s).res1 = s.res1 := rfl
@[simp] theorem clearStats_len (s : State) : (clearStats s).len = s.len := rfl
@[simp] theorem clearStats_bufaddr (s : State) : (clearStats s).bufaddr = s.bufaddr := rfl
@[simp] theorem clearStats_stSync (s : State) : (clearStats s).stSync = s.stSync := rfl
@[simp] theorem clearStats_stDone (s : State) : (clearStats s).stDone = s.stDone := rfl
@[simp] theorem clearStats_stNosync (s : State) : (clearStats s).stNosync = s.stNosync := rfl
@[simp] theorem clearStats_stIncomplete (s : State) : (clearStats s).stIncomplete = s.stIncomplete := rfl
@[simp] theorem clearStats_errIllegal (s : State) : (clearStats s).errIllegal = s.errIllegal := rfl
@[simp] theorem clearStats_errBusy (s : State) : (clearStats s).errBusy = s.errBusy := rfl
@[simp] theorem clearStats_errArg (s : State) : (clearStats s).errArg = s.errArg := rfl
@[simp] theorem clearStats_stOrphan (s : State) : (clearStats s).stOrphan = s.stOrphan := rfl
@[simp] theorem clearStats_stUncorr (s : State) : (clearStats s).stUncorr = s.stUncorr := rfl
@[simp] theorem clearStats_statBatch (s : State) : (clearStats s).statBatch = 0#32 := rfl
@[simp] theorem clearStats_statCw (s : State) : (clearStats s).statCw = 0#32 := rfl
@[simp] theorem clearStats_statFix (s : State) : (clearStats s).statFix = 0#32 := rfl
@[simp] theorem clearStats_statBad (s : State) : (clearStats s).statBad = 0#32 := rfl
@[simp] theorem clearStats_statMsg (s : State) : (clearStats s).statMsg = 0#32 := rfl
@[simp] theorem clearStats_statOrph (s : State) : (clearStats s).statOrph = 0#32 := rfl
@[simp] theorem clearStats_estate (s : State) : (clearStats s).estate = s.estate := rfl
@[simp] theorem clearStats_scanP (s : State) : (clearStats s).scanP = s.scanP := rfl
@[simp] theorem clearStats_cwK (s : State) : (clearStats s).cwK = s.cwK := rfl
@[simp] theorem clearStats_runBatch (s : State) : (clearStats s).runBatch = s.runBatch := rfl
@[simp] theorem clearStats_jobW (s : State) : (clearStats s).jobW = s.jobW := rfl
@[simp] theorem clearStats_jobI (s : State) : (clearStats s).jobI = s.jobI := rfl
@[simp] theorem clearStats_openF (s : State) : (clearStats s).openF = s.openF := rfl
@[simp] theorem clearStats_slotRW (s : State) : (clearStats s).slotRW = s.slotRW := rfl
@[simp] theorem clearStats_slotMV (s : State) : (clearStats s).slotMV = s.slotMV := rfl
@[simp] theorem clearStats_slotPcnt (s : State) : (clearStats s).slotPcnt = s.slotPcnt := rfl
@[simp] theorem clearStats_ibb (s : State) : (clearStats s).ibb = s.ibb := rfl
@[simp] theorem clearStats_fifo (s : State) : (clearStats s).fifo = s.fifo := rfl

/-! ### scanMatch -/

@[simp] theorem scanMatch_params (s : State) : (scanMatch s).params = s.params := rfl
@[simp] theorem scanMatch_agenda (s : State) : (scanMatch s).agenda = s.agenda := rfl
@[simp] theorem scanMatch_rdata (s : State) : (scanMatch s).rdata = s.rdata := rfl
@[simp] theorem scanMatch_opa (s : State) : (scanMatch s).opa = s.opa := rfl
@[simp] theorem scanMatch_res0 (s : State) : (scanMatch s).res0 = s.res0 := rfl
@[simp] theorem scanMatch_res1 (s : State) : (scanMatch s).res1 = s.res1 := rfl
@[simp] theorem scanMatch_len (s : State) : (scanMatch s).len = s.len := rfl
@[simp] theorem scanMatch_bufaddr (s : State) : (scanMatch s).bufaddr = s.bufaddr := rfl
@[simp] theorem scanMatch_stSync (s : State) : (scanMatch s).stSync = true := rfl
@[simp] theorem scanMatch_stDone (s : State) : (scanMatch s).stDone = s.stDone := rfl
@[simp] theorem scanMatch_stNosync (s : State) : (scanMatch s).stNosync = s.stNosync := rfl
@[simp] theorem scanMatch_stIncomplete (s : State) : (scanMatch s).stIncomplete = s.stIncomplete := rfl
@[simp] theorem scanMatch_errIllegal (s : State) : (scanMatch s).errIllegal = s.errIllegal := rfl
@[simp] theorem scanMatch_errBusy (s : State) : (scanMatch s).errBusy = s.errBusy := rfl
@[simp] theorem scanMatch_errArg (s : State) : (scanMatch s).errArg = s.errArg := rfl
@[simp] theorem scanMatch_stOrphan (s : State) : (scanMatch s).stOrphan = s.stOrphan := rfl
@[simp] theorem scanMatch_stUncorr (s : State) : (scanMatch s).stUncorr = s.stUncorr := rfl
@[simp] theorem scanMatch_statBatch (s : State) : (scanMatch s).statBatch = s.statBatch := rfl
@[simp] theorem scanMatch_statCw (s : State) : (scanMatch s).statCw = s.statCw := rfl
@[simp] theorem scanMatch_statFix (s : State) : (scanMatch s).statFix = s.statFix := rfl
@[simp] theorem scanMatch_statBad (s : State) : (scanMatch s).statBad = s.statBad := rfl
@[simp] theorem scanMatch_statMsg (s : State) : (scanMatch s).statMsg = s.statMsg := rfl
@[simp] theorem scanMatch_statOrph (s : State) : (scanMatch s).statOrph = s.statOrph := rfl
@[simp] theorem scanMatch_estate (s : State) : (scanMatch s).estate = .batch := rfl
@[simp] theorem scanMatch_scanP (s : State) : (scanMatch s).scanP = s.scanP := rfl
@[simp] theorem scanMatch_cwK (s : State) : (scanMatch s).cwK = 0#4 := rfl
@[simp] theorem scanMatch_runBatch (s : State) : (scanMatch s).runBatch = s.runBatch := rfl
@[simp] theorem scanMatch_jobW (s : State) : (scanMatch s).jobW = s.jobW := rfl
@[simp] theorem scanMatch_jobI (s : State) : (scanMatch s).jobI = s.jobI := rfl
@[simp] theorem scanMatch_openF (s : State) : (scanMatch s).openF = s.openF := rfl
@[simp] theorem scanMatch_slotRW (s : State) : (scanMatch s).slotRW = s.slotRW := rfl
@[simp] theorem scanMatch_slotMV (s : State) : (scanMatch s).slotMV = s.slotMV := rfl
@[simp] theorem scanMatch_slotPcnt (s : State) : (scanMatch s).slotPcnt = s.slotPcnt := rfl
@[simp] theorem scanMatch_ibb (s : State) : (scanMatch s).ibb = s.ibb := rfl
@[simp] theorem scanMatch_fifo (s : State) : (scanMatch s).fifo = s.fifo := rfl

/-! ### finishRun -/

@[simp] theorem finishRun_params (s : State) : (finishRun s).params = s.params := rfl
@[simp] theorem finishRun_agenda (s : State) : (finishRun s).agenda = s.agenda := rfl
@[simp] theorem finishRun_rdata (s : State) : (finishRun s).rdata = s.rdata := rfl
@[simp] theorem finishRun_opa (s : State) : (finishRun s).opa = s.opa := rfl
@[simp] theorem finishRun_res0 (s : State) : (finishRun s).res0 = s.res0 := rfl
@[simp] theorem finishRun_res1 (s : State) : (finishRun s).res1 = s.res1 := rfl
@[simp] theorem finishRun_len (s : State) : (finishRun s).len = s.len := rfl
@[simp] theorem finishRun_bufaddr (s : State) : (finishRun s).bufaddr = s.bufaddr := rfl
@[simp] theorem finishRun_stSync (s : State) : (finishRun s).stSync = s.stSync := rfl
@[simp] theorem finishRun_stDone (s : State) : (finishRun s).stDone = true := rfl
@[simp] theorem finishRun_stNosync (s : State) : (finishRun s).stNosync = (!s.stSync) := rfl
@[simp] theorem finishRun_stIncomplete (s : State) : (finishRun s).stIncomplete = s.stIncomplete := rfl
@[simp] theorem finishRun_errIllegal (s : State) : (finishRun s).errIllegal = s.errIllegal := rfl
@[simp] theorem finishRun_errBusy (s : State) : (finishRun s).errBusy = s.errBusy := rfl
@[simp] theorem finishRun_errArg (s : State) : (finishRun s).errArg = s.errArg := rfl
@[simp] theorem finishRun_stOrphan (s : State) : (finishRun s).stOrphan = s.stOrphan := rfl
@[simp] theorem finishRun_stUncorr (s : State) : (finishRun s).stUncorr = s.stUncorr := rfl
@[simp] theorem finishRun_statBatch (s : State) : (finishRun s).statBatch = s.statBatch := rfl
@[simp] theorem finishRun_statCw (s : State) : (finishRun s).statCw = s.statCw := rfl
@[simp] theorem finishRun_statFix (s : State) : (finishRun s).statFix = s.statFix := rfl
@[simp] theorem finishRun_statBad (s : State) : (finishRun s).statBad = s.statBad := rfl
@[simp] theorem finishRun_statMsg (s : State) : (finishRun s).statMsg = s.statMsg := rfl
@[simp] theorem finishRun_statOrph (s : State) : (finishRun s).statOrph = s.statOrph := rfl
@[simp] theorem finishRun_estate (s : State) : (finishRun s).estate = .idle := rfl
@[simp] theorem finishRun_scanP (s : State) : (finishRun s).scanP = s.scanP := rfl
@[simp] theorem finishRun_cwK (s : State) : (finishRun s).cwK = s.cwK := rfl
@[simp] theorem finishRun_runBatch (s : State) : (finishRun s).runBatch = s.runBatch := rfl
@[simp] theorem finishRun_jobW (s : State) : (finishRun s).jobW = s.jobW := rfl
@[simp] theorem finishRun_jobI (s : State) : (finishRun s).jobI = s.jobI := rfl
@[simp] theorem finishRun_openF (s : State) : (finishRun s).openF = s.openF := rfl
@[simp] theorem finishRun_slotRW (s : State) : (finishRun s).slotRW = s.slotRW := rfl
@[simp] theorem finishRun_slotMV (s : State) : (finishRun s).slotMV = s.slotMV := rfl
@[simp] theorem finishRun_slotPcnt (s : State) : (finishRun s).slotPcnt = s.slotPcnt := rfl
@[simp] theorem finishRun_ibb (s : State) : (finishRun s).ibb = s.ibb := rfl
@[simp] theorem finishRun_fifo (s : State) : (finishRun s).fifo = s.fifo ++ [runDoneRecord s.stIncomplete (!s.stSync) s.runBatch] :=
  rfl

/-! ### writeStatus -/

@[simp] theorem writeStatus_params (v : Word) (s : State) : (writeStatus v s).params = s.params := rfl
@[simp] theorem writeStatus_agenda (v : Word) (s : State) : (writeStatus v s).agenda = s.agenda := rfl
@[simp] theorem writeStatus_rdata (v : Word) (s : State) : (writeStatus v s).rdata = s.rdata := rfl
@[simp] theorem writeStatus_opa (v : Word) (s : State) : (writeStatus v s).opa = s.opa := rfl
@[simp] theorem writeStatus_res0 (v : Word) (s : State) : (writeStatus v s).res0 = s.res0 := rfl
@[simp] theorem writeStatus_res1 (v : Word) (s : State) : (writeStatus v s).res1 = s.res1 := rfl
@[simp] theorem writeStatus_len (v : Word) (s : State) : (writeStatus v s).len = s.len := rfl
@[simp] theorem writeStatus_bufaddr (v : Word) (s : State) : (writeStatus v s).bufaddr = s.bufaddr := rfl
@[simp] theorem writeStatus_stSync (v : Word) (s : State) : (writeStatus v s).stSync = s.stSync := rfl
@[simp] theorem writeStatus_stDone (v : Word) (s : State) : (writeStatus v s).stDone = s.stDone := rfl
@[simp] theorem writeStatus_stNosync (v : Word) (s : State) : (writeStatus v s).stNosync = s.stNosync := rfl
@[simp] theorem writeStatus_stIncomplete (v : Word) (s : State) : (writeStatus v s).stIncomplete = s.stIncomplete := rfl
@[simp] theorem writeStatus_errIllegal (v : Word) (s : State) : (writeStatus v s).errIllegal = (s.errIllegal && !v.getLsbD 24) :=
  rfl
@[simp] theorem writeStatus_errBusy (v : Word) (s : State) : (writeStatus v s).errBusy = (s.errBusy && !v.getLsbD 25) :=
  rfl
@[simp] theorem writeStatus_errArg (v : Word) (s : State) : (writeStatus v s).errArg = (s.errArg && !v.getLsbD 26) :=
  rfl
@[simp] theorem writeStatus_stOrphan (v : Word) (s : State) : (writeStatus v s).stOrphan = (s.stOrphan && !v.getLsbD 28) :=
  rfl
@[simp] theorem writeStatus_stUncorr (v : Word) (s : State) : (writeStatus v s).stUncorr = (s.stUncorr && !v.getLsbD 29) :=
  rfl
@[simp] theorem writeStatus_statBatch (v : Word) (s : State) : (writeStatus v s).statBatch = s.statBatch := rfl
@[simp] theorem writeStatus_statCw (v : Word) (s : State) : (writeStatus v s).statCw = s.statCw := rfl
@[simp] theorem writeStatus_statFix (v : Word) (s : State) : (writeStatus v s).statFix = s.statFix := rfl
@[simp] theorem writeStatus_statBad (v : Word) (s : State) : (writeStatus v s).statBad = s.statBad := rfl
@[simp] theorem writeStatus_statMsg (v : Word) (s : State) : (writeStatus v s).statMsg = s.statMsg := rfl
@[simp] theorem writeStatus_statOrph (v : Word) (s : State) : (writeStatus v s).statOrph = s.statOrph := rfl
@[simp] theorem writeStatus_estate (v : Word) (s : State) : (writeStatus v s).estate = s.estate := rfl
@[simp] theorem writeStatus_scanP (v : Word) (s : State) : (writeStatus v s).scanP = s.scanP := rfl
@[simp] theorem writeStatus_cwK (v : Word) (s : State) : (writeStatus v s).cwK = s.cwK := rfl
@[simp] theorem writeStatus_runBatch (v : Word) (s : State) : (writeStatus v s).runBatch = s.runBatch := rfl
@[simp] theorem writeStatus_jobW (v : Word) (s : State) : (writeStatus v s).jobW = s.jobW := rfl
@[simp] theorem writeStatus_jobI (v : Word) (s : State) : (writeStatus v s).jobI = s.jobI := rfl
@[simp] theorem writeStatus_openF (v : Word) (s : State) : (writeStatus v s).openF = s.openF := rfl
@[simp] theorem writeStatus_slotRW (v : Word) (s : State) : (writeStatus v s).slotRW = s.slotRW := rfl
@[simp] theorem writeStatus_slotMV (v : Word) (s : State) : (writeStatus v s).slotMV = s.slotMV := rfl
@[simp] theorem writeStatus_slotPcnt (v : Word) (s : State) : (writeStatus v s).slotPcnt = s.slotPcnt := rfl
@[simp] theorem writeStatus_ibb (v : Word) (s : State) : (writeStatus v s).ibb = s.ibb := rfl
@[simp] theorem writeStatus_fifo (v : Word) (s : State) : (writeStatus v s).fifo = s.fifo := rfl

/-! ### raiseCond: a condition changes nothing but its own STATUS bit -/

@[simp] theorem raiseCond_params (c : Condition) (s : State) : (raiseCond c s).params = s.params := by cases c <;> rfl
@[simp] theorem raiseCond_agenda (c : Condition) (s : State) : (raiseCond c s).agenda = s.agenda := by cases c <;> rfl
@[simp] theorem raiseCond_rdata (c : Condition) (s : State) : (raiseCond c s).rdata = s.rdata := by cases c <;> rfl
@[simp] theorem raiseCond_opa (c : Condition) (s : State) : (raiseCond c s).opa = s.opa := by cases c <;> rfl
@[simp] theorem raiseCond_res0 (c : Condition) (s : State) : (raiseCond c s).res0 = s.res0 := by cases c <;> rfl
@[simp] theorem raiseCond_res1 (c : Condition) (s : State) : (raiseCond c s).res1 = s.res1 := by cases c <;> rfl
@[simp] theorem raiseCond_len (c : Condition) (s : State) : (raiseCond c s).len = s.len := by cases c <;> rfl
@[simp] theorem raiseCond_bufaddr (c : Condition) (s : State) : (raiseCond c s).bufaddr = s.bufaddr := by cases c <;> rfl
@[simp] theorem raiseCond_stSync (c : Condition) (s : State) : (raiseCond c s).stSync = s.stSync := by cases c <;> rfl
@[simp] theorem raiseCond_stDone (c : Condition) (s : State) : (raiseCond c s).stDone = s.stDone := by cases c <;> rfl
@[simp] theorem raiseCond_stNosync (c : Condition) (s : State) :
    (raiseCond c s).stNosync = (s.stNosync || c == .nosync) := by
  cases c <;> simp [raiseCond]
@[simp] theorem raiseCond_stIncomplete (c : Condition) (s : State) :
    (raiseCond c s).stIncomplete = (s.stIncomplete || c == .incomplete) := by
  cases c <;> simp [raiseCond]
@[simp] theorem raiseCond_errIllegal (c : Condition) (s : State) :
    (raiseCond c s).errIllegal = (s.errIllegal || c == .errIllegal) := by
  cases c <;> simp [raiseCond]
@[simp] theorem raiseCond_errBusy (c : Condition) (s : State) :
    (raiseCond c s).errBusy = (s.errBusy || c == .errBusy) := by
  cases c <;> simp [raiseCond]
@[simp] theorem raiseCond_errArg (c : Condition) (s : State) :
    (raiseCond c s).errArg = (s.errArg || c == .errArg) := by
  cases c <;> simp [raiseCond]
@[simp] theorem raiseCond_stOrphan (c : Condition) (s : State) :
    (raiseCond c s).stOrphan = (s.stOrphan || c == .orphan) := by
  cases c <;> simp [raiseCond]
@[simp] theorem raiseCond_stUncorr (c : Condition) (s : State) :
    (raiseCond c s).stUncorr = (s.stUncorr || c == .uncorr) := by
  cases c <;> simp [raiseCond]
@[simp] theorem raiseCond_statBatch (c : Condition) (s : State) : (raiseCond c s).statBatch = s.statBatch := by cases c <;> rfl
@[simp] theorem raiseCond_statCw (c : Condition) (s : State) : (raiseCond c s).statCw = s.statCw := by cases c <;> rfl
@[simp] theorem raiseCond_statFix (c : Condition) (s : State) : (raiseCond c s).statFix = s.statFix := by cases c <;> rfl
@[simp] theorem raiseCond_statBad (c : Condition) (s : State) : (raiseCond c s).statBad = s.statBad := by cases c <;> rfl
@[simp] theorem raiseCond_statMsg (c : Condition) (s : State) : (raiseCond c s).statMsg = s.statMsg := by cases c <;> rfl
@[simp] theorem raiseCond_statOrph (c : Condition) (s : State) : (raiseCond c s).statOrph = s.statOrph := by cases c <;> rfl
@[simp] theorem raiseCond_estate (c : Condition) (s : State) : (raiseCond c s).estate = s.estate := by cases c <;> rfl
@[simp] theorem raiseCond_scanP (c : Condition) (s : State) : (raiseCond c s).scanP = s.scanP := by cases c <;> rfl
@[simp] theorem raiseCond_cwK (c : Condition) (s : State) : (raiseCond c s).cwK = s.cwK := by cases c <;> rfl
@[simp] theorem raiseCond_runBatch (c : Condition) (s : State) : (raiseCond c s).runBatch = s.runBatch := by cases c <;> rfl
@[simp] theorem raiseCond_jobW (c : Condition) (s : State) : (raiseCond c s).jobW = s.jobW := by cases c <;> rfl
@[simp] theorem raiseCond_jobI (c : Condition) (s : State) : (raiseCond c s).jobI = s.jobI := by cases c <;> rfl
@[simp] theorem raiseCond_openF (c : Condition) (s : State) : (raiseCond c s).openF = s.openF := by cases c <;> rfl
@[simp] theorem raiseCond_slotRW (c : Condition) (s : State) : (raiseCond c s).slotRW = s.slotRW := by cases c <;> rfl
@[simp] theorem raiseCond_slotMV (c : Condition) (s : State) : (raiseCond c s).slotMV = s.slotMV := by cases c <;> rfl
@[simp] theorem raiseCond_slotPcnt (c : Condition) (s : State) : (raiseCond c s).slotPcnt = s.slotPcnt := by cases c <;> rfl
@[simp] theorem raiseCond_ibb (c : Condition) (s : State) : (raiseCond c s).ibb = s.ibb := by cases c <;> rfl
@[simp] theorem raiseCond_fifo (c : Condition) (s : State) : (raiseCond c s).fifo = s.fifo := by cases c <;> rfl

/-! ### resetBlock: the parameters, the agenda, the last answer and the buffer stay, the rest is as after reset -/

@[simp] theorem resetBlock_params (s : State) : (resetBlock s).params = s.params := rfl
@[simp] theorem resetBlock_agenda (s : State) : (resetBlock s).agenda = s.agenda := rfl
@[simp] theorem resetBlock_rdata (s : State) : (resetBlock s).rdata = s.rdata := rfl
@[simp] theorem resetBlock_opa (s : State) : (resetBlock s).opa = (State.resetWith s.params).opa := rfl
@[simp] theorem resetBlock_res0 (s : State) : (resetBlock s).res0 = (State.resetWith s.params).res0 := rfl
@[simp] theorem resetBlock_res1 (s : State) : (resetBlock s).res1 = (State.resetWith s.params).res1 := rfl
@[simp] theorem resetBlock_len (s : State) : (resetBlock s).len = (State.resetWith s.params).len := rfl
@[simp] theorem resetBlock_bufaddr (s : State) : (resetBlock s).bufaddr = (State.resetWith s.params).bufaddr := rfl
@[simp] theorem resetBlock_stSync (s : State) : (resetBlock s).stSync = (State.resetWith s.params).stSync := rfl
@[simp] theorem resetBlock_stDone (s : State) : (resetBlock s).stDone = (State.resetWith s.params).stDone := rfl
@[simp] theorem resetBlock_stNosync (s : State) : (resetBlock s).stNosync = (State.resetWith s.params).stNosync := rfl
@[simp] theorem resetBlock_stIncomplete (s : State) : (resetBlock s).stIncomplete = (State.resetWith s.params).stIncomplete := rfl
@[simp] theorem resetBlock_errIllegal (s : State) : (resetBlock s).errIllegal = (State.resetWith s.params).errIllegal := rfl
@[simp] theorem resetBlock_errBusy (s : State) : (resetBlock s).errBusy = (State.resetWith s.params).errBusy := rfl
@[simp] theorem resetBlock_errArg (s : State) : (resetBlock s).errArg = (State.resetWith s.params).errArg := rfl
@[simp] theorem resetBlock_stOrphan (s : State) : (resetBlock s).stOrphan = (State.resetWith s.params).stOrphan := rfl
@[simp] theorem resetBlock_stUncorr (s : State) : (resetBlock s).stUncorr = (State.resetWith s.params).stUncorr := rfl
@[simp] theorem resetBlock_statBatch (s : State) : (resetBlock s).statBatch = (State.resetWith s.params).statBatch := rfl
@[simp] theorem resetBlock_statCw (s : State) : (resetBlock s).statCw = (State.resetWith s.params).statCw := rfl
@[simp] theorem resetBlock_statFix (s : State) : (resetBlock s).statFix = (State.resetWith s.params).statFix := rfl
@[simp] theorem resetBlock_statBad (s : State) : (resetBlock s).statBad = (State.resetWith s.params).statBad := rfl
@[simp] theorem resetBlock_statMsg (s : State) : (resetBlock s).statMsg = (State.resetWith s.params).statMsg := rfl
@[simp] theorem resetBlock_statOrph (s : State) : (resetBlock s).statOrph = (State.resetWith s.params).statOrph := rfl
@[simp] theorem resetBlock_estate (s : State) : (resetBlock s).estate = (State.resetWith s.params).estate := rfl
@[simp] theorem resetBlock_scanP (s : State) : (resetBlock s).scanP = (State.resetWith s.params).scanP := rfl
@[simp] theorem resetBlock_cwK (s : State) : (resetBlock s).cwK = (State.resetWith s.params).cwK := rfl
@[simp] theorem resetBlock_runBatch (s : State) : (resetBlock s).runBatch = (State.resetWith s.params).runBatch := rfl
@[simp] theorem resetBlock_jobW (s : State) : (resetBlock s).jobW = (State.resetWith s.params).jobW := rfl
@[simp] theorem resetBlock_jobI (s : State) : (resetBlock s).jobI = (State.resetWith s.params).jobI := rfl
@[simp] theorem resetBlock_openF (s : State) : (resetBlock s).openF = (State.resetWith s.params).openF := rfl
@[simp] theorem resetBlock_slotRW (s : State) : (resetBlock s).slotRW = (State.resetWith s.params).slotRW := rfl
@[simp] theorem resetBlock_slotMV (s : State) : (resetBlock s).slotMV = (State.resetWith s.params).slotMV := rfl
@[simp] theorem resetBlock_slotPcnt (s : State) : (resetBlock s).slotPcnt = (State.resetWith s.params).slotPcnt := rfl
@[simp] theorem resetBlock_ibb (s : State) : (resetBlock s).ibb = s.ibb := rfl
@[simp] theorem resetBlock_fifo (s : State) : (resetBlock s).fifo = (State.resetWith s.params).fifo := rfl

end Sys2Proof.Machine
end

