-- ==== Sys2Proof/Laws/Ops.lean ====
section
/-! SUPPORT. One lemma for each shared operation that says all it can do: acceptance, holds, the width check, reset,
closing a message, and the views of the state. -/

namespace Sys2Proof.Machine

/-! ### BUSY and acceptance -/

theorem busy_eq_false {s : State} : busy s = false ↔ s.estate = .idle := by
  unfold busy
  cases s.estate <;> simp

theorem busy_eq_true {s : State} : busy s = true ↔ s.estate ≠ .idle := by
  unfold busy
  cases s.estate <;> simp

theorem accept_idle {s : State} (h : busy s = false) (f : State → State) : accept s f = f s := by
  simp [accept, h]

theorem accept_busy {s : State} (h : busy s = true) (f : State → State) :
    accept s f = { s with errBusy := true } := by
  simp [accept, h, raiseCond]

/-- What an acceptance can do: refuse the access while BUSY, or perform it. -/
theorem accept_cases (s : State) (f : State → State) :
    (busy s = true ∧ accept s f = { s with errBusy := true }) ∨ (busy s = false ∧ accept s f = f s) := by
  cases h : busy s
  · exact .inr ⟨rfl, accept_idle h f⟩
  · exact .inl ⟨rfl, accept_busy h f⟩

theorem withWidth_legal {g : BitVec 8} (h : LegalWidth g) (s : State) (f : State → State) :
    withWidth g s f = f s := if_pos h

theorem withWidth_illegal {g : BitVec 8} (h : ¬ LegalWidth g) (s : State) (f : State → State) :
    withWidth g s f = { s with errArg := true } := if_neg h

/-- What the group-width check can do: perform the command, or raise ERR_ARG only. -/
theorem withWidth_cases (g : BitVec 8) (s : State) (f : State → State) :
    (LegalWidth g ∧ withWidth g s f = f s) ∨ (¬ LegalWidth g ∧ withWidth g s f = { s with errArg := true }) := by
  unfold withWidth
  split
  · next h => exact .inl ⟨h, rfl⟩
  · next h => exact .inr ⟨h, rfl⟩

/-! ### Holds -/

theorem whenFree_enabled {m : Nat} {s : State} (h : m ≤ free s) (f : State → State) : whenFree m s f = f s := by
  simp [whenFree, h]

theorem whenFree_held {m : Nat} {s : State} (h : free s < m) (f : State → State) : whenFree m s f = s := by
  simp [whenFree, Nat.not_le.mpr h]

/-- What an engine step that pushes m records can do: hold, or happen. -/
theorem whenFree_cases (m : Nat) (s : State) (f : State → State) :
    (free s < m ∧ whenFree m s f = s) ∨ (m ≤ free s ∧ whenFree m s f = f s) := by
  by_cases h : m ≤ free s
  · exact .inr ⟨h, whenFree_enabled h f⟩
  · exact .inl ⟨Nat.lt_of_not_le h, whenFree_held (Nat.lt_of_not_le h) f⟩

/-- Free entries leave room for that many records, in a FIFO that holds at least one. -/
theorem length_add_le_of_free {m : Nat} {s : State} (h : m ≤ free s) (hf : s.fifo.length ≤ s.params.fifoDepth) :
    s.fifo.length + m ≤ s.params.fifoDepth := by
  unfold free at h
  omega

/-! ### Closing a message -/

/-- What `if OPENF == 1: CloseMsg(reason)` can do. -/
theorem closeIfOpen_cases (r : CloseReason) (s : State) :
    (s.openF = true ∧ closeIfOpen r s = closeMsg r s) ∨ (s.openF = false ∧ closeIfOpen r s = s) := by
  unfold closeIfOpen
  cases s.openF <;> simp

/-- It pushes OPENF records. -/
theorem closeIfOpen_fifo_length (r : CloseReason) (s : State) :
    (closeIfOpen r s).fifo.length = s.fifo.length + s.openF.toNat := by
  obtain ⟨h, e⟩ | ⟨h, e⟩ := closeIfOpen_cases r s <;> simp [h, e]

/-- It leaves no message open. -/
@[simp] theorem closeIfOpen_openF (r : CloseReason) (s : State) : (closeIfOpen r s).openF = false := by
  obtain ⟨h, e⟩ | ⟨h, e⟩ := closeIfOpen_cases r s <;> simp [h, e]

/-- It changes the slot's OPENF, STAT_MSG and the FIFO, and nothing else. -/
theorem closeIfOpen_frame (r : CloseReason) (s : State) :
    closeIfOpen r s = { s with
      fifo := (closeIfOpen r s).fifo, statMsg := (closeIfOpen r s).statMsg, openF := false } := by
  obtain ⟨h, e⟩ | ⟨h, e⟩ := closeIfOpen_cases r s
  · rw [e]; rfl
  · rw [e, ← h]

end Sys2Proof.Machine
end

