-- ==== Sys2Proof/Laws/Engine.lean ====
section
/-! SUPPORT. What the codeword step and each engine step can do, said once (43_message_assembler.md R240 to R244,
42_frame_parser.md R207 to R214). -/

namespace Sys2Proof.Machine

/-- What the codeword step can do: by the type of the corrected word, and for a Message by OPENF. -/
theorem codewordStep_cases (raw : Word) (k : BitVec 4) (s : State) :
    (typeOf (correctWord raw).w2 = .address ∧
      codewordStep raw k s = onAddress k (correctWord raw) (countCodeword (correctWord raw) s)) ∨
    (typeOf (correctWord raw).w2 = .idle ∧
      codewordStep raw k s = onIdle (countCodeword (correctWord raw) s)) ∨
    (typeOf (correctWord raw).w2 = .message ∧ s.openF = true ∧
      codewordStep raw k s = onPayload k (correctWord raw) (countCodeword (correctWord raw) s)) ∨
    (typeOf (correctWord raw).w2 = .message ∧ s.openF = false ∧
      codewordStep raw k s = onOrphan k (correctWord raw) (countCodeword (correctWord raw) s)) := by
  unfold codewordStep assemble
  cases h : typeOf (correctWord raw).w2 with
  | address => exact .inl ⟨rfl, rfl⟩
  | idle => exact .inr (.inl ⟨rfl, rfl⟩)
  | message => cases ho : s.openF <;> simp [ho]

/-- Every field the codeword step can change: the slot, the counters, two STATUS bits and the FIFO. -/
theorem codewordStep_frame (raw : Word) (k : BitVec 4) (s : State) :
    codewordStep raw k s = { s with
      openF := (codewordStep raw k s).openF
      slotRW := (codewordStep raw k s).slotRW
      slotMV := (codewordStep raw k s).slotMV
      slotPcnt := (codewordStep raw k s).slotPcnt
      statCw := (codewordStep raw k s).statCw
      statFix := (codewordStep raw k s).statFix
      statBad := (codewordStep raw k s).statBad
      statMsg := (codewordStep raw k s).statMsg
      statOrph := (codewordStep raw k s).statOrph
      stOrphan := (codewordStep raw k s).stOrphan
      stUncorr := (codewordStep raw k s).stUncorr
      fifo := (codewordStep raw k s).fifo } := by
  obtain ⟨-, e⟩ | ⟨-, e⟩ | ⟨-, -, e⟩ | ⟨-, -, e⟩ := codewordStep_cases raw k s <;> rw [e]
  · unfold onAddress
    rw [closeIfOpen_frame]
    rfl
  · unfold onIdle
    rw [closeIfOpen_frame]
    rfl
  · rfl
  · rfl

/-- What a SCAN step can do. -/
theorem stepScan_cases (s : State) :
    (s.len.toNat < s.scanP + 32 ∧ stepScan s = .next (setEstate .flush s)) ∨
    (s.scanP + 32 ≤ s.len.toNat ∧ window s.ibb s.scanP = none ∧ stepScan s = .fault .unwrittenWindow) ∨
    (s.scanP + 32 ≤ s.len.toNat ∧ ∃ w, window s.ibb s.scanP = some w ∧ w ≠ preambleWord ∧
      stepScan s = .next { s with scanP := s.scanP + 1 }) ∨
    (s.scanP + 544 ≤ s.len.toNat ∧ window s.ibb s.scanP = some preambleWord ∧ stepScan s = .next (scanMatch s)) ∨
    (s.scanP + 32 ≤ s.len.toNat ∧ s.len.toNat < s.scanP + 544 ∧ window s.ibb s.scanP = some preambleWord ∧
      stepScan s = .next (whenFree 1 s scanIncomplete)) := by
  unfold stepScan
  simp only [cwBits, batchBits, batchCws]
  by_cases h : s.len.toNat < s.scanP + 32
  · exact .inl ⟨h, by rw [if_pos h]⟩
  · have hle : s.scanP + 32 ≤ s.len.toNat := Nat.le_of_not_lt h
    rw [if_neg h]
    refine .inr ?_
    cases hw : window s.ibb s.scanP with
    | none => exact .inl ⟨hle, rfl, rfl⟩
    | some w =>
      refine .inr ?_
      by_cases hp : w = preambleWord
      · subst hp
        refine .inr ?_
        by_cases hb : s.scanP + 544 ≤ s.len.toNat
        · exact .inl ⟨hb, rfl, by simp [hb]⟩
        · exact .inr ⟨hle, Nat.lt_of_not_le hb, rfl, by simp [hb]⟩
      · exact .inl ⟨hle, w, rfl, hp, by simp [hp]⟩

/-- What a BATCH step can do. -/
theorem stepBatch_cases (s : State) :
    (window s.ibb (codewordPos s) = none ∧ stepBatch s = .fault .unwrittenWindow) ∨
    (∃ raw, window s.ibb (codewordPos s) = some raw ∧ free s < need raw s ∧ stepBatch s = .next s) ∨
    (∃ raw, window s.ibb (codewordPos s) = some raw ∧ need raw s ≤ free s ∧
      stepBatch s = .next (advanceBatch (codewordStep raw s.cwK s))) := by
  unfold stepBatch
  cases hw : window s.ibb (codewordPos s) with
  | none => exact .inl ⟨rfl, rfl⟩
  | some raw =>
    refine .inr ?_
    obtain ⟨h, e⟩ | ⟨h, e⟩ := whenFree_cases (need raw s) s fun s => advanceBatch (codewordStep raw s.cwK s)
    · exact .inl ⟨raw, rfl, h, by simp only [e]⟩
    · exact .inr ⟨raw, rfl, h, by simp only [e]⟩

/-- What the end of a BATCH step can do. -/
theorem advanceBatch_cases (s : State) :
    (s.cwK = 15#4 ∧ advanceBatch s = { s with
      runBatch := s.runBatch + 1#32, statBatch := s.statBatch + 1#32, scanP := s.scanP + 1, estate := .scan }) ∨
    (s.cwK ≠ 15#4 ∧ advanceBatch s = { s with cwK := s.cwK + 1#4 }) := by
  unfold advanceBatch
  split
  · next h => exact .inl ⟨h, rfl⟩
  · next h => exact .inr ⟨h, rfl⟩

/-- The engine's turn by its state. -/
theorem engineStep_cases (s : State) :
    (s.estate = .idle ∧ engineStep s = .next s) ∨
    (s.estate = .start ∧ engineStep s = stepStart s) ∨
    (s.estate = .scan ∧ engineStep s = stepScan s) ∨
    (s.estate = .batch ∧ engineStep s = stepBatch s) ∨
    (s.estate = .flush ∧ engineStep s = stepFlush s) ∨
    (s.estate = .asm ∧ engineStep s = stepAsm s) ∨
    (s.estate = .aend ∧ engineStep s = stepAend s) := by
  unfold engineStep
  cases s.estate <;> simp

end Sys2Proof.Machine
end

