-- ==== Sys2Proof/Laws/HostProgram.lean ====
section
/-! SUPPORT. What the assembler emits and refuses (30_encoding.md R118 to R120), said once for a command, a line and a
program. -/

namespace Sys2Proof.Machine

theorem assembleCommand_wellFormed {i : Instr} (h : i.WellFormed = true) : assembleCommand i = some (encode i) :=
  if_pos h

theorem assembleCommand_illFormed {i : Instr} (h : i.WellFormed = false) : assembleCommand i = none := by
  simp [assembleCommand, h]

/-- The assembler refuses exactly the ill-formed commands. -/
theorem assembleCommand_eq_none {i : Instr} : assembleCommand i = none ↔ i.WellFormed = false := by
  cases h : i.WellFormed <;> simp [assembleCommand, h]

/-- The only line the assembler refuses is one of an ill-formed command: PACKM or PACKL with g outside 1..32. -/
theorem expandLine_eq_none {l : HostLine} : expandLine l = none ↔ ∃ i, l = .command i ∧ i.WellFormed = false := by
  cases l <;> simp [expandLine, assembleCommand_eq_none, Instr.WellFormed]

/-- What the expansion of a program of one more line can be: the line's events before the others, or refused with one of
them. -/
theorem expandProgram_cons_cases (l : HostLine) (ls : List HostLine) :
    (∃ es rest, expandLine l = some es ∧ expandProgram ls = some rest ∧ expandProgram (l :: ls) = some (es ++ rest)) ∨
    ((expandLine l = none ∨ expandProgram ls = none) ∧ expandProgram (l :: ls) = none) := by
  cases hl : expandLine l <;> cases hs : expandProgram ls <;> simp [expandProgram, hl, hs]

/-- A program is refused exactly when it has a line that is. -/
theorem expandProgram_eq_none {ls : List HostLine} : expandProgram ls = none ↔ ∃ l ∈ ls, expandLine l = none := by
  induction ls with
  | nil => simp [expandProgram]
  | cons l ls ih =>
    obtain ⟨es, rest, hl, hs, e⟩ | ⟨h, e⟩ := expandProgram_cons_cases l ls
    · have hn : ¬ ∃ l ∈ ls, expandLine l = none := by simp [← ih, hs]
      simpa [e, hl] using hn
    · simpa [e, ← ih] using h

end Sys2Proof.Machine
end

