-- ==== Sys2Proof/Laws/Memory.lean ====
section
/-! SUPPORT. The laws of the input bit buffer: read after write, the frame of a write, and the canonical form. -/

namespace Sys2Proof.Machine

/-! ### Bytes -/

@[simp] theorem readByte_nil (a : Nat) : readByte [] a = none := rfl

@[simp] theorem readByte_cons (k : Nat) (b : Byte) (m : List Host.Cell) (a : Nat) :
    readByte ((k, b) :: m) a = if k = a then some b else readByte m a := rfl

@[simp] theorem readByte_writeByte_same (m : List Host.Cell) (a : Nat) (v : Byte) :
    readByte (writeByte m a v) a = some v := by
  induction m with
  | nil => simp [writeByte]
  | cons c m ih =>
    obtain ⟨k, b⟩ := c
    unfold writeByte
    split
    · simp
    · split
      · simp
      · rename_i h
        simp [Ne.symm h, ih]

theorem readByte_writeByte_other (m : List Host.Cell) {a a' : Nat} (v : Byte) (h : a' ≠ a) :
    readByte (writeByte m a v) a' = readByte m a' := by
  induction m with
  | nil => simp [writeByte, Ne.symm h]
  | cons c m ih =>
    obtain ⟨k, b⟩ := c
    unfold writeByte
    split
    · simp [Ne.symm h]
    · split
      · rename_i hk
        simp [← hk, Ne.symm h]
      · simp [ih]

/-- What a byte write can do to any byte. -/
theorem readByte_writeByte (m : List Host.Cell) (a a' : Nat) (v : Byte) :
    readByte (writeByte m a v) a' = if a' = a then some v else readByte m a' := by
  split
  · next h => subst h; simp
  · next h => exact readByte_writeByte_other m v h

/-- A byte write adds no address but its own. -/
theorem mem_keys_writeByte {m : List Host.Cell} {a : Nat} {v : Byte} {x : Nat}
    (h : x ∈ (writeByte m a v).map Prod.fst) : x = a ∨ x ∈ m.map Prod.fst := by
  induction m with
  | nil => simpa [writeByte] using h
  | cons c m ih =>
    obtain ⟨k, b⟩ := c
    unfold writeByte at h
    split at h
    · simpa using h
    · split at h
      · simp only [List.map_cons, List.mem_cons] at h ⊢
        exact h.imp_right Or.inr
      · simp only [List.map_cons, List.mem_cons] at h ⊢
        obtain h | h := h
        · exact Or.inr (Or.inl h)
        · exact (ih h).imp_right Or.inr

@[simp] theorem Memory.wf_nil : Memory.wf [] := by simp [Memory.wf]

/-- A byte write keeps the canonical form. -/
theorem Memory.wf_writeByte {m : List Host.Cell} (h : Memory.wf m) (a : Nat) (v : Byte) :
    Memory.wf (writeByte m a v) := by
  induction m with
  | nil => simp [writeByte, Memory.wf]
  | cons c m ih =>
    obtain ⟨k, b⟩ := c
    have h' : (∀ x ∈ m.map Prod.fst, k < x) ∧ Memory.wf m := List.pairwise_cons.mp h
    unfold writeByte
    split
    · next hlt =>
      refine List.pairwise_cons.mpr ⟨fun x hx => ?_, h⟩
      simp only [List.map_cons, List.mem_cons] at hx
      obtain rfl | hx := hx
      · exact hlt
      · exact hlt.trans (h'.1 x hx)
    · split
      · next heq => subst heq; exact h
      · next hge hne =>
        refine List.pairwise_cons.mpr ⟨fun x hx => ?_, ih h'.2⟩
        obtain rfl | hx := mem_keys_writeByte hx
        · show k < x
          omega
        · exact h'.1 x hx

/-! ### Words -/

/-- A word write keeps the canonical form. -/
theorem Memory.wf_writeWord {m : List Host.Cell} (h : Memory.wf m) (i : Nat) (v : Word) :
    Memory.wf (writeWord m i v) :=
  Memory.wf_writeByte (Memory.wf_writeByte (Memory.wf_writeByte (Memory.wf_writeByte h _ _) _ _) _ _) _ _

/-- A word write leaves every byte outside its word alone. -/
theorem readByte_writeWord_other (m : List Host.Cell) {i a : Nat} (v : Word) (h : a < 4 * i ∨ 4 * i + 3 < a) :
    readByte (writeWord m i v) a = readByte m a := by
  unfold writeWord
  repeat rw [readByte_writeByte_other _ _ (by omega)]

/-- A word write stores the four bytes of its word, the most significant one first. -/
theorem readByte_writeWord_same (m : List Host.Cell) (i : Nat) (v : Word) :
    readByte (writeWord m i v) (4 * i) = some (v.extractLsb' 24 8) ∧
    readByte (writeWord m i v) (4 * i + 1) = some (v.extractLsb' 16 8) ∧
    readByte (writeWord m i v) (4 * i + 2) = some (v.extractLsb' 8 8) ∧
    readByte (writeWord m i v) (4 * i + 3) = some (v.extractLsb' 0 8) := by
  simp [writeWord, readByte_writeByte]

/-- The four bytes of a word put together again. -/
theorem bytes_append (v : Word) :
    (v.extractLsb' 24 8 ++ v.extractLsb' 16 8 ++ v.extractLsb' 8 8 ++ v.extractLsb' 0 8 : BitVec 32) = v := by
  rw [BitVec.extractLsb'_append_extractLsb'_eq_extractLsb' (by rfl),
    BitVec.extractLsb'_append_extractLsb'_eq_extractLsb' (by rfl),
    BitVec.extractLsb'_append_extractLsb'_eq_extractLsb' (by rfl)]
  simp

@[simp] theorem readWord_writeWord_same (m : List Host.Cell) (i : Nat) (v : Word) :
    readWord (writeWord m i v) i = some v := by
  obtain ⟨h0, h1, h2, h3⟩ := readByte_writeWord_same m i v
  simp only [readWord, h0, h1, h2, h3, bytes_append]

theorem readWord_writeWord_other (m : List Host.Cell) {i j : Nat} (v : Word) (h : j ≠ i) :
    readWord (writeWord m i v) j = readWord m j := by
  unfold readWord
  repeat rw [readByte_writeWord_other _ _ (by omega)]

/-- A word reads as a value exactly when its four bytes do. -/
theorem readWord_isSome (m : List Host.Cell) (i : Nat) :
    (readWord m i).isSome ↔ (readByte m (4 * i)).isSome ∧ (readByte m (4 * i + 1)).isSome ∧
      (readByte m (4 * i + 2)).isSome ∧ (readByte m (4 * i + 3)).isSome := by
  unfold readWord
  cases readByte m (4 * i) <;> cases readByte m (4 * i + 1) <;> cases readByte m (4 * i + 2) <;>
    cases readByte m (4 * i + 3) <;> simp

/-- What a window read can answer: one word, or the end of one and the beginning of the next. -/
theorem window_cases {m : List Host.Cell} {b : Nat} {w : Word} (h : window m b = some w) :
    (b % 32 = 0 ∧ readWord m (b / 32) = some w) ∨
    (b % 32 ≠ 0 ∧ ∃ w0 w1, readWord m (b / 32) = some w0 ∧ readWord m (b / 32 + 1) = some w1 ∧
      w = (w0 <<< (b % 32)) ||| (w1 >>> (32 - b % 32))) := by
  unfold window at h
  split at h
  · next h0 => exact .inl ⟨h0, h⟩
  · next h0 =>
    split at h
    · next w0 w1 h1 h2 => exact .inr ⟨h0, w0, w1, h1, h2, by simpa using h.symm⟩
    · cases h

/-- A window read answers when the words it touches are written. -/
theorem window_isSome {m : List Host.Cell} {b : Nat} (h0 : (readWord m (b / 32)).isSome)
    (h1 : b % 32 ≠ 0 → (readWord m (b / 32 + 1)).isSome) : (window m b).isSome := by
  unfold window
  split
  · exact h0
  · next h =>
    obtain ⟨w0, e0⟩ := Option.isSome_iff_exists.mp h0
    obtain ⟨w1, e1⟩ := Option.isSome_iff_exists.mp (h1 h)
    simp [e0, e1]

end Sys2Proof.Machine
end

