-- ==== Sys2Proof/Laws/Packing.lean ====
section
/-! SUPPORT. The two packings of a bit sequence, bit by bit (00_scope.md R9, R10). -/

namespace Sys2Proof.Machine

@[simp] theorem packLsb_nil : packLsb [] = 0 := rfl

@[simp] theorem packLsb_cons (b : Bool) (bits : List Bool) : packLsb (b :: bits) = b.toNat + 2 * packLsb bits := rfl

/-- Bit j of an LSB-first packing is the bit at index j. -/
theorem packLsb_testBit (bits : List Bool) (j : Nat) : (packLsb bits).testBit j = bits.getD j false := by
  induction bits generalizing j with
  | nil => simp
  | cons b bits ih =>
    cases j with
    | zero => cases b <;> simp [Nat.testBit_zero, Nat.add_mod]
    | succ j =>
      have h2 : (b.toNat + 2 * packLsb bits) / 2 = packLsb bits := by
        have := Bool.toNat_le b
        omega
      rw [packLsb_cons, Nat.testBit_succ, h2, ih]
      simp

/-- An LSB-first packing of n bits is below 2^n. -/
theorem packLsb_lt (bits : List Bool) : packLsb bits < 2 ^ bits.length := by
  induction bits with
  | nil => simp
  | cons b bits ih => cases b <;> simp [Nat.pow_succ] <;> omega

@[simp] theorem packMsb_nil : packMsb [] = 0 := rfl

@[simp] theorem packMsb_append_singleton (bits : List Bool) (b : Bool) :
    packMsb (bits ++ [b]) = 2 * packMsb bits + b.toNat := by
  simp [packMsb]

/-- An MSB-first packing is the LSB-first packing of the reversed bits. -/
theorem packMsb_eq_packLsb_reverse (bits : List Bool) : packMsb bits = packLsb bits.reverse := by
  induction bits using List.reverseRecOn with
  | nil => rfl
  | append_singleton bits b ih => simp [ih, Nat.add_comm]

@[simp] theorem length_seqBits (w : Word) (j n : Nat) : (seqBits w j n).length = n := by simp [seqBits]

/-- Sequence bit i of a run of sequence bits. -/
theorem getD_seqBits (w : Word) (j n i : Nat) :
    (seqBits w j n).getD i false = (decide (i < n) && seqBit w (j + i)) := by
  by_cases h : i < n
  · simp [seqBits, List.getD_eq_getElem?_getD, h]
  · simp [seqBits, List.getD_eq_getElem?_getD, h]

/-- The word e(j) has sequence bit j and no other. -/
theorem seqMask_getLsbD {j : Nat} (h : j < 32) (i : Nat) : (seqMask j).getLsbD i = decide (i = 31 - j) := by
  unfold seqMask
  rw [BitVec.getLsbD_shiftLeft]
  by_cases hi : i = 31 - j
  · subst hi
    simp
    omega
  · by_cases h1 : i < 31 - j
    · simp [h1, hi]
    · have : i - (31 - j) ≠ 0 := by omega
      simp [hi, this]

end Sys2Proof.Machine
end

