-- ==== Sys2Proof/Laws/PerInstr.lean ====
section
/-! SUPPORT. Families of statements with one lemma per command. -/

namespace Sys2Proof.Laws.OpcodeField

/-- The OP field of a command's word is its row's OP value (30_encoding.md R112). -/
def Statement (i : Instr) : Prop := opOf (encode i) = opcode i

theorem nop : Statement .nop := opOf_commandWord _ _ _
theorem synd : Statement .synd := opOf_commandWord _ _ _
theorem parity : Statement .parity := opOf_commandWord _ _ _
theorem correct : Statement .correct := opOf_commandWord _ _ _
theorem classify : Statement .classify := opOf_commandWord _ _ _
theorem decode : Statement .decode := opOf_commandWord _ _ _
theorem packm (g : BitVec 8) : Statement (.packm g) := opOf_commandWord _ _ _
theorem packl (g : BitVec 8) : Statement (.packl g) := opOf_commandWord _ _ _
theorem bcd5 : Statement .bcd5 := opOf_commandWord _ _ _
theorem run : Statement .run := opOf_commandWord _ _ _
theorem asmcw (tag : BitVec 4) : Statement (.asmcw tag) := opOf_commandWord _ _ _
theorem asmend : Statement .asmend := opOf_commandWord _ _ _
theorem statclr : Statement .statclr := opOf_commandWord _ _ _
theorem sreset : Statement .sreset := opOf_commandWord _ _ _

end Sys2Proof.Laws.OpcodeField
end

