-- ==== Sys2Proof/Laws/Port.lean ====
section
/-! SUPPORT. What an access of the host port, an event and a step can do (10_state.md R40, 20_memory.md R80). -/

namespace Sys2Proof.Machine

/-- Every meaning answers a next state. -/
theorem exec_next (i : Instr) (s : State) : ∃ t, exec i s = .next t := by
  cases i <;> exact ⟨_, rfl⟩

/-- What a CMD write can do: run the decoded command, or treat an illegal one. -/
theorem writeCmd_cases (c : Word) (s : State) :
    (∃ i, decode c = .ok i ∧ writeCmd c s = exec i s) ∨
    (∃ r, decode c = .error r ∧ writeCmd c s = .next (illegalCommand s)) := by
  unfold writeCmd
  cases decode c with
  | ok i => exact .inl ⟨i, rfl, rfl⟩
  | error r => exact .inr ⟨r, rfl, rfl⟩

/-- What a BUFDATA read can do. -/
theorem readBufdata_cases (s : State) :
    (readWord s.ibb s.bufaddr.toNat = none ∧ readBufdata s = .fault .unwrittenBufdata) ∨
    (∃ v, readWord s.ibb s.bufaddr.toNat = some v ∧ readBufdata s = .next (bumpBufaddr (answer v s))) := by
  unfold readBufdata
  cases readWord s.ibb s.bufaddr.toNat with
  | none => exact .inl ⟨rfl, rfl⟩
  | some v => exact .inr ⟨v, rfl, rfl⟩

/-- What a read can do: answer with no other effect, a BUFDATA read, or an OUT_LO read that pops. -/
theorem readReg_cases (r : Reg) (s : State) :
    (∃ v, readReg r s = .next (answer v s)) ∨ (r = .bufdata ∧ readReg r s = readBufdata s) ∨
    (∃ x xs, r = .outLo ∧ s.fifo = x :: xs ∧ readReg r s = .next (pop (answer x.lo s))) := by
  cases r
  case bufdata => exact .inr (.inl ⟨rfl, rfl⟩)
  case outHi => cases h : s.fifo <;> exact .inl ⟨_, by simp [readReg, readOutHi, h]; rfl⟩
  case outLo =>
    cases h : s.fifo with
    | nil => exact .inl ⟨0#32, by simp [readReg, readOutLo, h]⟩
    | cons x xs => exact .inr (.inr ⟨x, xs, rfl, rfl, by simp [readReg, readOutLo, h]⟩)
  all_goals exact .inl ⟨_, rfl⟩

/-- What a write can do. -/
theorem writeReg_cases (r : Reg) (v : Word) (s : State) :
    (r = .cmd ∧ writeReg r v s = writeCmd v s) ∨ (r = .status ∧ writeReg r v s = .next (writeStatus v s)) ∨
    (r = .opa ∧ writeReg r v s = .next { s with opa := v }) ∨
    (r = .len ∧ writeReg r v s = .next (writeLen v s)) ∨
    (r = .bufaddr ∧ writeReg r v s = .next (writeBufaddr v s)) ∨
    (r = .bufdata ∧ writeReg r v s = .next (writeBufdata v s)) ∨ writeReg r v s = .next s := by
  cases r <;> simp [writeReg]

/-- A write never faults and is never refused by the model. -/
theorem writeReg_next (r : Reg) (v : Word) (s : State) : ∃ t, writeReg r v s = .next t := by
  obtain ⟨-, e⟩ | ⟨-, e⟩ | ⟨-, e⟩ | ⟨-, e⟩ | ⟨-, e⟩ | ⟨-, e⟩ | e := writeReg_cases r v s
  · obtain ⟨i, -, ei⟩ | ⟨x, -, ei⟩ := writeCmd_cases v s
    · obtain ⟨t, et⟩ := exec_next i s
      exact ⟨t, by rw [e, ei, et]⟩
    · exact ⟨_, by rw [e, ei]⟩
  all_goals exact ⟨_, e⟩

/-- What a cycle with rst = 1 does: the reset transition, and 0 to an attempted read. -/
theorem rstCycle_cases (a : Option HostAccess) (s : State) :
    (rstCycle a s = resetBlock s) ∨ (∃ addr, a = some (.read addr) ∧ rstCycle a s = answer 0#32 (resetBlock s)) := by
  cases a with
  | none => exact .inl rfl
  | some acc => cases acc with
    | read addr => exact .inr ⟨addr, rfl, rfl⟩
    | write addr v => exact .inl rfl

/-- What a turn of drain can do. -/
theorem drainTurn_cases (s : State) : ∃ es, drainTurn s = schedule es (answer (statusWord s) s) := by
  unfold drainTurn
  dsimp only
  split
  · exact ⟨_, rfl⟩
  · exact ⟨[], rfl⟩

/-- What a turn of the loop of decodeall can do. -/
theorem drainUntilDoneTurn_cases (s : State) :
    ∃ es, drainUntilDoneTurn s = schedule es (answer (statusWord s) s) := by
  unfold drainUntilDoneTurn
  dsimp only
  split
  · exact ⟨_, rfl⟩
  · split
    · exact ⟨_, rfl⟩
    · exact ⟨[], rfl⟩

/-- What a turn of poll can do: a read, which may fault, and perhaps more of the agenda. -/
theorem pollTurn_cases (addr : BitVec 7) (mask v : Word) (s : State) :
    (∃ t es, hostAccess (.read addr) s = .next t ∧ pollTurn addr mask v s = .next (schedule es t)) ∨
    (∃ f, hostAccess (.read addr) s = .fault f ∧ pollTurn addr mask v s = .fault f) ∨
    (∃ f, hostAccess (.read addr) s = .refused f ∧ pollTurn addr mask v s = .refused f) := by
  unfold pollTurn
  cases h : hostAccess (.read addr) s with
  | next t =>
    refine .inl ⟨t, ?_⟩
    by_cases hv : t.rdata &&& mask = v
    · exact ⟨[], rfl, by simp [hv, schedule]⟩
    · exact ⟨_, rfl, by simp [hv]; rfl⟩
  | fault f => exact .inr (.inl ⟨f, rfl, rfl⟩)
  | refused f => exact .inr (.inr ⟨f, rfl, rfl⟩)

/-- A step takes the next event of the agenda, and the engine's turn when there is none. -/
theorem step_cases (s : State) :
    (s.agenda = [] ∧ step s = engineStep s) ∨
    (∃ e rest, s.agenda = e :: rest ∧ step s = portEvent e { s with agenda := rest }) := by
  unfold step
  cases s.agenda with
  | nil => exact .inl ⟨rfl, rfl⟩
  | cons e rest => exact .inr ⟨e, rest, rfl, rfl⟩

/-- A step whose next event is a CMD write performs that write. -/
theorem step_withFetchWord (s : State) (nbits w : Nat) :
    step (s.withFetchWord nbits w) = writeCmd (BitVec.ofNat 32 (w % 2 ^ nbits)) s := rfl

end Sys2Proof.Machine
end

