-- ==== Sys2Proof/Tests/Slice0.lean ====
section
/-! SUPPORT. Tests: ill-formed terms, the decoding of written-out words, small vectors of 95_test_vectors.md, and states
that meet the hypotheses of the statements. -/

namespace Sys2Proof.Tests

open Sys2Proof Sys2Proof.Machine

-- One test at a time: each kernel evaluation otherwise holds a thread of its own.
set_option Elab.async false

/-! ### Helpers -/

/-- The reset state with an operand. -/
def withOpa (w : Word) : State := { State.reset with opa := w }

/-- The reset state with the engine in a given state. -/
def inState (e : EState) : State := { State.reset with estate := e }

/-- The reset state with one buffer word and a transmission of L bits. -/
def withWord (w : Word) (L : Nat) : State :=
  { State.reset with ibb := writeWord [] 0 w, len := BitVec.ofNat 32 L }

/-- The state an outcome leaves, the reset state when it stops. -/
def after (o : Host.Outcome State Fault Refusal) : State :=
  match o with
  | .next t => t
  | .fault _ => State.reset
  | .refused _ => State.reset

/-- RES0 and RES1 after a unit command on an operand. -/
def results (i : Instr) (w : Word) : Word × Word :=
  ((after (exec i (withOpa w))).res0, (after (exec i (withOpa w))).res1)

/-- Whether an outcome is a next state. -/
def completes (o : Host.Outcome State Fault Refusal) : Bool :=
  match o with
  | .next _ => true
  | .fault _ => false
  | .refused _ => false

/-- A record to put into a FIFO. -/
def someRecord : Record where
  hi := 0x1020FC6A#32
  lo := 0x07E35696#32

/-- The reset state with a message open and a full FIFO of two entries. -/
def fullOpen (e : EState) : State :=
  { State.resetWith { log2BufWords := 11, fifoDepth := 2 } with
    estate := e
    openF := true
    fifo := [someRecord, someRecord] }

/-! ### Ill-formed terms (30_encoding.md R118, 40_bitpacking.md R145) -/

theorem test_packm_width_0_is_ill_formed : (Instr.packm 0#8).WellFormed = false := by decide
theorem test_packm_width_33_is_ill_formed : (Instr.packm 33#8).WellFormed = false := by decide
theorem test_packl_width_0_is_ill_formed : (Instr.packl 0#8).WellFormed = false := by decide
theorem test_packl_width_255_is_ill_formed : (Instr.packl 255#8).WellFormed = false := by decide
theorem test_packm_width_1_is_well_formed : (Instr.packm 1#8).WellFormed = true := by decide
theorem test_packl_width_32_is_well_formed : (Instr.packl 32#8).WellFormed = true := by decide

/-- 30_encoding.md R118: the assembler refuses the line packm 0 and a program with it; a raw CMD write of its word is
allowed. -/
theorem test_ill_formed_line_is_refused :
    expandLine (.command (.packm 0#8)) = none ∧ expandLine (.command (.packl 33#8)) = none ∧
    expandProgram [.opa 1#32, .command (.packm 0#8)] = none ∧
    expandLine (.wr .cmd 0x08000000#32) = some [.host (.write 0x04#7 0x08000000#32)] ∧
    expandLine (.command (.packm 32#8)) = some [.host (.write 0x04#7 0x08200000#32)] := by decide

/-! ### Decoding of words written out from 30_encoding.md R112 and the opcode table -/

theorem test_decode_nop : decode 0x00000000#32 = .ok .nop := by decide
theorem test_decode_synd : decode 0x01000000#32 = .ok .synd := by decide
theorem test_decode_parity : decode 0x02000000#32 = .ok .parity := by decide
theorem test_decode_correct_reserved_fields : decode 0x03FFFFFF#32 = .ok .correct := by decide
theorem test_decode_classify : decode 0x04000000#32 = .ok .classify := by decide
theorem test_decode_decode : decode 0x05000000#32 = .ok .decode := by decide
theorem test_decode_packm : decode 0x08080000#32 = .ok (.packm 8#8) := by decide
theorem test_decode_packl : decode 0x09200000#32 = .ok (.packl 32#8) := by decide
theorem test_decode_bcd5 : decode 0x0A000000#32 = .ok .bcd5 := by decide
theorem test_decode_run : decode 0x10000000#32 = .ok .run := by decide
theorem test_decode_asmcw : decode 0x11000004#32 = .ok (.asmcw 4#4) := by decide
theorem test_decode_asmend : decode 0x12000000#32 = .ok .asmend := by decide
theorem test_decode_statclr : decode 0x1E000000#32 = .ok .statclr := by decide
theorem test_decode_sreset : decode 0x1F000000#32 = .ok .sreset := by decide
theorem test_decode_06_is_illegal : decode 0x06000000#32 = .error (.illegalOp 0x06#8) := by decide
theorem test_decode_ff_is_illegal : decode 0xFF000000#32 = .error (.illegalOp 0xFF#8) := by decide

theorem test_table_word_packm : decodeTableWord 32 0x08080000 = some (.packm 8#8) := by decide
theorem test_fetch_word_runs :
    (after (step ((withOpa 0x7A89C197#32).withFetchWord 32 0x04000000))).res0 = 2#32 := by decide +kernel

/-! ### Vectors of 95_test_vectors.md -/

/-- V-CTL-01. -/
theorem test_nop_changes_nothing : after (exec .nop (withOpa 5#32)) = withOpa 5#32 := by decide +kernel
/-- V-ECC-04. -/
theorem test_synd_of_the_top_bit : results .synd 0x80000000#32 = (0x3B4#32, 0#32) := by decide +kernel
/-- V-ECC-02. -/
theorem test_synd_of_idle : results .synd 0x7A89C197#32 = (0#32, 0#32) := by decide +kernel
/-- V-PAR-03. -/
theorem test_parity_of_all_ones : results .parity 0xFFFFFFFF#32 = (3#32, 0#32) := by decide +kernel
/-- V-PAR-06. -/
theorem test_parity_of_the_top_bit : results .parity 0x80000000#32 = (2#32, 0#32) := by decide +kernel
/-- V-ECC-07. -/
theorem test_correct_parity_only : results .correct 0x07E35697#32 = (0x07E35696#32, 0x00000035#32) := by
  decide +kernel
/-- V-ECC-08. -/
theorem test_correct_two_errors : results .correct 0x03E31696#32 = (0x07E35696#32, 0x02C10026#32) := by
  decide +kernel
/-- V-CLS-09. -/
theorem test_classify_does_not_correct : results .classify 0x7A89C196#32 = (0#32, 0#32) := by decide +kernel
/-- V-CLS-10. -/
theorem test_classify_idle : results .classify 0x7A89C197#32 = (2#32, 0#32) := by decide +kernel
/-- V-CLS-09. -/
theorem test_decode_command_restores_idle : results .decode 0x7A89C196#32 = (0x7A89C197#32, 0xF5138015#32) := by
  decide +kernel
/-- V-CLS-13. -/
theorem test_decode_command_restores_the_flag : results .decode 0x07074238#32 = (0x87074238#32, 0x0E0E800D#32) := by
  decide +kernel
/-- V-PACK-06. -/
theorem test_packm_8 : results (.packm 8#8) 0x7CD215D8#32 = (0x7C#32, 0#32) := by decide +kernel
/-- V-PACK-11. -/
theorem test_packm_31 : results (.packm 31#8) 0x00000001#32 = (0#32, 0#32) := by decide +kernel
/-- V-PACK-06. -/
theorem test_packl_8 : results (.packl 8#8) 0x7CD215D8#32 = (0x3E#32, 0#32) := by decide +kernel
/-- V-PACK-04. -/
theorem test_packl_32 : results (.packl 32#8) 0x12345678#32 = (0x1E6A2C48#32, 0#32) := by decide +kernel
/-- V-BCD-10. -/
theorem test_bcd5_symbols : results .bcd5 0x000B5C3D#32 = (0x2D003320#32, 0x00001D55#32) := by decide +kernel
/-- V-BCD-11. -/
theorem test_bcd5_ignores_the_top : results .bcd5 0xFFF0E0E8#32 = (0x30373037#32, 0x00001F31#32) := by
  decide +kernel
/-- V-CTL-12: the counters are cleared, STATUS is not. -/
theorem test_statclr : after (exec .statclr { State.reset with statCw := 5#32, stDone := true }) =
    { State.reset with stDone := true } := by decide +kernel
/-- V-CTL-13: SRESET while BUSY, the buffer kept. -/
theorem test_sreset : after (exec .sreset { withWord 7#32 32 with estate := .scan, openF := true }) =
    withWord 7#32 0 := by decide +kernel
/-- 42_frame_parser.md R206, by hand. -/
theorem test_run_starts : statusWord (after (exec .run { State.reset with stDone := true, stSync := true })) = 1#32 := by
  decide +kernel
/-- V-RUN-01: START, SCAN and FLUSH end a RUN with LEN = 0. -/
theorem test_run_of_nothing : (Host.Core.run Sys2Proof.core 3 (after (exec .run State.reset)) |> after).fifo =
    [{ hi := 0x60000001#32, lo := 0#32 }] := by decide +kernel
/-- V-ASM-03. -/
theorem test_asmcw_orphan :
    (after (engineStep (after (exec (.asmcw 0#4) (withOpa 0x87074238#32))))).fifo =
      [{ hi := 0x4020E0E8#32, lo := 0x87074238#32 }] := by decide +kernel
/-- V-ASM-01: STATUS shows OPEN, OUT_NE and one record. -/
theorem test_asmcw_opens :
    statusWord (after (engineStep (after (exec (.asmcw 0#4) (withOpa 0x07E35696#32))))) = 0x00010102#32 := by
  decide +kernel
/-- V-ASM-05. -/
theorem test_asmend_of_nothing : after (engineStep (after (exec .asmend State.reset))) = State.reset := by
  decide +kernel
/-- V-ASM-02. -/
theorem test_asmend_closes : (after (engineStep (after (exec .asmend
    { State.reset with openF := true, slotMV := true, slotRW := 0x07E35696#32 })))).fifo =
      [{ hi := 0x38200000#32, lo := 0x07E35696#32 }] := by decide +kernel
/-- V-CTL-14 and V-CTL-15. -/
theorem test_id_and_param : (after (hostAccess (.read 0x00#7) State.reset)).rdata = 0x50430100#32 ∧
    (after (hostAccess (.read 0x44#7) State.reset)).rdata = 0x00000B40#32 := by decide +kernel

/-- L1-BCD-3: the corrected payloads render as 0707193385. -/
theorem test_render_bcd : (renderBcd [0x87074238#32, 0xCE60D688#32]).map BitVec.toNat =
    [0x30, 0x37, 0x30, 0x37, 0x31, 0x39, 0x33, 0x33, 0x38, 0x35] := by decide +kernel
/-- L1-PACK-3, and a partial group refused (93_implementation_defined.md I5). -/
theorem test_pack_groups :
    packGroups packLsb 8 (seqBits 0x00FF0000#32 0 16) = some [0x00, 0xFF] ∧
    packGroups packLsb 7 (seqBits 0x00FF0000#32 0 16) = none := by decide +kernel
/-- PRG-2: its last two records are one message with no payload. -/
theorem test_messages : messagesOf [{ hi := 0x13200004#32, lo := 0x000026EC#32 }, { hi := 0x34200000#32, lo := 0x000026EC#32 }] =
    some [{ recipient := 0x000026EC#32, payload := [], reason := 1#2, valid := true, count := 0#16 }] := by
  decide +kernel

/-! ### States that meet the hypotheses of the statements -/

/-- The hypotheses BUSY = 0 and BUSY = 1 of the command statements. -/
theorem test_idle_and_busy : busy State.reset = false ∧ busy (inState .asm) = true ∧ busy (inState .batch) = true := by
  decide

/-- AssemblerWritesTheTableOfMnemonics: operands at the ends of each range. -/
theorem test_assembler_ranges :
    assembleLine "packm" (some 1) = some 0x08010000#32 ∧ assembleLine "packl" (some 32) = some 0x09200000#32 ∧
    assembleLine "packm" (some 0) = none ∧ assembleLine "packl" (some 33) = none ∧
    assembleLine "asmcw" (some 0) = some 0x11000000#32 ∧ assembleLine "asmcw" (some 15) = some 0x1100000F#32 ∧
    assembleLine "asmcw" (some 16) = none := by decide +kernel

/-- ReservedFieldsAreIgnored: an instruction of each excluded-form clause, and illegal widths. -/
theorem test_reserved_clauses :
    ((∀ g, Instr.run ≠ .packm g) ∧ (∀ g, Instr.run ≠ .packl g) ∧ (∀ t, Instr.run ≠ .asmcw t)) ∧
    ((∀ g, Instr.asmcw 3#4 ≠ .packm g) ∧ (∀ g, Instr.asmcw 3#4 ≠ .packl g)) ∧
    (∀ t, Instr.packm 3#8 ≠ .asmcw t) ∧
    busy State.reset = false ∧ ¬ (1 ≤ (0#8).toNat ∧ (0#8).toNat ≤ 32) ∧
    ¬ (1 ≤ (33#8).toNat ∧ (33#8).toNat ≤ 32) := by
  refine ⟨⟨?_, ?_, ?_⟩, ⟨?_, ?_⟩, ?_, ?_⟩ <;> first | (intro x h; cases h) | decide

/-- IllegalOpcodesOnlyRaiseErrIllegal: the ends of each undefined range. -/
theorem test_illegal_clauses : busy State.reset = false ∧
    decode 0x06000000#32 = .error (.illegalOp 0x06#8) ∧ decode 0x07000000#32 = .error (.illegalOp 0x07#8) ∧
    decode 0x0B000000#32 = .error (.illegalOp 0x0B#8) ∧ decode 0x0F000000#32 = .error (.illegalOp 0x0F#8) ∧
    decode 0x13000000#32 = .error (.illegalOp 0x13#8) ∧ decode 0x1D000000#32 = .error (.illegalOp 0x1D#8) ∧
    decode 0x20000000#32 = .error (.illegalOp 0x20#8) ∧ decode 0xFF000000#32 = .error (.illegalOp 0xFF#8) := by
  decide

/-- CmdWriteFollowsTheAcceptanceOrder: a word and a state for each branch. -/
theorem test_acceptance_branches :
    (opOf 0x1F000000#32).toNat = 0x1F ∧
    ((opOf 0x00000000#32).toNat ≠ 0x1F ∧ busy (inState .scan) = true) ∧
    ((opOf 0x06000000#32).toNat ∉ [0x00, 0x01, 0x02, 0x03, 0x04, 0x05, 0x08, 0x09, 0x0A, 0x10, 0x11, 0x12, 0x1E, 0x1F]
      ∧ busy State.reset = false) ∧
    ((opOf 0x08000000#32).toNat ∈ [0x08, 0x09] ∧
      ¬ (1 ≤ (arg1Of 0x08000000#32).toNat ∧ (arg1Of 0x08000000#32).toNat ≤ 32)) ∧
    ((opOf 0x09210000#32).toNat ∈ [0x08, 0x09] ∧
      ¬ (1 ≤ (arg1Of 0x09210000#32).toNat ∧ (arg1Of 0x09210000#32).toNat ≤ 32)) ∧
    ((opOf 0x08010000#32).toNat ∈ [0x08, 0x09] ∧
      (1 ≤ (arg1Of 0x08010000#32).toNat ∧ (arg1Of 0x08010000#32).toNat ≤ 32)) ∧
    ((opOf 0x1E000000#32).toNat ∈ [0x00, 0x01, 0x02, 0x03, 0x04, 0x05, 0x08, 0x09, 0x0A, 0x10, 0x11, 0x12, 0x1E] ∧
      (opOf 0x1E000000#32).toNat ∉ [0x08, 0x09]) := by decide

/-- PackmWritesTheTopBits and PacklWritesTheBitsReversed: legal and illegal widths at their ends, and a palindrome
(V-PACK-08). -/
theorem test_width_clauses :
    busy State.reset = false ∧ (1 ≤ (1#8).toNat ∧ (32#8).toNat ≤ 32) ∧ (0#8).toNat = 0 ∧ 32 < (33#8).toNat ∧
    32 < (255#8).toNat ∧
    ∀ j, j < (8#8).toNat → (0xA5000000#32).getLsbD (31 - j) = (0xA5000000#32).getLsbD (32 - (8#8).toNat + j) := by
  decide

/-- The clauses of CORRECT: a clean word, a wrong parity bit, an error in the span, and an even wrong word. -/
theorem test_correct_clauses :
    (syn 0x07E35696#32 = 0#10 ∧ parityOk 0x07E35696#32 = true) ∧
    (syn 0x07E35697#32 = 0#10 ∧ parityOk 0x07E35697#32 = false ∧ (correctWord 0x07E35697#32).pflip = true ∧
      (correctWord 0x07E35697#32).valid = true) ∧
    (syn 0x87E35696#32 ≠ 0#10 ∧ syn (0x87E35696#32 ^^^ seqMask 0) = 0#10) ∧
    (syn (0x07E35697#32 ^^^ seqMask 30) ≠ 0#10 ∧ syn (0x07E35697#32 ^^^ seqMask 30 ^^^ seqMask 30) = 0#10) := by
  decide +kernel

/-- CorrectFollowsItsStages: two wrong bits that no single flip repairs (V-ECC-08). -/
theorem test_correct_two_errors_clause :
    syn 0x03E31696#32 ≠ 0#10 ∧ (∀ j, j < 31 → syn (0x03E31696#32 ^^^ seqMask j) ≠ 0#10) ∧
    syn (0x03E31696#32 ^^^ seqMask 5 ^^^ seqMask 17) = 0#10 := by decide +kernel

/-- CorrectFollowsItsStages and CorrectWritesTheCorrectionAndItsFlags: an uncorrectable word (V-ECC-10). -/
theorem test_correct_uncorrectable_clause :
    syn 0x77E35696#32 ≠ 0#10 ∧ (∀ j, j < 31 → syn (0x77E35696#32 ^^^ seqMask j) ≠ 0#10) ∧
    (∀ j, j < 31 → ∀ i, i < j → syn (0x77E35696#32 ^^^ seqMask i ^^^ seqMask j) ≠ 0#10) := by decide +kernel

/-- ClassifyWritesTheTypeOfTheRawWord: a word of each type. -/
theorem test_classify_clauses :
    0x87074238#32 ≠ 0x7A89C197#32 ∧ (0x87074238#32).getLsbD 31 = true ∧
    0x07E35696#32 ≠ 0x7A89C197#32 ∧ (0x07E35696#32).getLsbD 31 = false := by decide

/-- UnitResultsDependOnTheOperandAlone: well-formed unit commands, the widths at their ends. -/
theorem test_unit_clauses : Instr.synd.WellFormed = true ∧ (Instr.packm 32#8).WellFormed = true ∧
    (Instr.packl 1#8).WellFormed = true ∧ (Instr.packl 33#8).WellFormed = false ∧ (withOpa 9#32).opa = 9#32 ∧ busy (withOpa 9#32) = false := by decide

/-- The codewords of the error statements, with positions at the ends of the protected span. -/
theorem test_codeword_hypotheses : syn idleWord = 0#10 ∧ parityOk idleWord = true ∧ syn preambleWord = 0#10 ∧
    parityOk preambleWord = true ∧ ((0 : Nat) < 1 ∧ (1 : Nat) < 30 ∧ (30 : Nat) < 31) := by decide +kernel

/-- ProtectedAndParityErrorsAreInvalid: the ends of the protected span in each clause, and what its one-error clause says
at both ends (41_error_correction.md R178 (e)). -/
theorem test_protected_and_parity_positions :
    (syn idleWord = 0#10 ∧ parityOk idleWord = true ∧ (0 : Nat) < 31 ∧ (30 : Nat) < 31 ∧ (0 : Nat) < 30) ∧
    ((correctWord (idleWord ^^^ seqMask 0 ^^^ 1#32)).w2 = idleWord ^^^ 1#32 ∧
      (correctWord (idleWord ^^^ seqMask 0 ^^^ 1#32)).valid = false) ∧
    ((correctWord (idleWord ^^^ seqMask 30 ^^^ 1#32)).w2 = idleWord ^^^ 1#32 ∧
      (correctWord (idleWord ^^^ seqMask 30 ^^^ 1#32)).valid = false) := by decide +kernel

/-- OnlyCmdLenAndBufdataWritesAreRefusedWhileBusy: an address of the ignored writes, and a read that answers. -/
theorem test_busy_clauses : busy (inState .flush) = true ∧ (0x10#7).toNat / 4 ∉ [1, 2, 3, 6, 7, 8] ∧
    (0x7F#7).toNat / 4 ∉ [1, 2, 3, 6, 7, 8] ∧ (0x0B#7).toNat / 4 = 2 ∧ (0x20#7).toNat / 4 ≠ 2 ∧
    completes (hostAccess (.read 0x20#7) { withWord 7#32 32 with estate := .idle }) = true ∧ completes (hostAccess (.read 0x20#7) { withWord 7#32 32 with
      estate := .flush }) = true := by decide +kernel

/-- BufdataReadReturnsAndIncrements and WindowIsThe32BitsFromItsStart: written and unwritten words, an aligned and an
unaligned window. -/
theorem test_buffer_clauses :
    readWord (withWord 7#32 32).ibb 0 = some 7#32 ∧ readWord (withWord 7#32 32).ibb 1 = none ∧
    window (withWord 7#32 32).ibb 0 = some 7#32 ∧ window (withWord 7#32 32).ibb 1 = none ∧
    window (writeWord (writeWord [] 0 1#32) 1 0x80000000#32) 31 = some 0xC0000000#32 ∧
    (∀ i, i < 32 → (bufBit (writeWord (writeWord [] 0 1#32) 1 0x80000000#32) (31 + i)).isSome = true) := by
  decide +kernel

/-- The parameters, at the ends of their ranges (00_scope.md R6). -/
theorem test_params_clauses : State.reset.params.wf ∧ ({ log2BufWords := 0, fifoDepth := 2 } : Params).wf ∧
    ({ log2BufWords := 16, fifoDepth := 255 } : Params).wf ∧
    ¬ ({ log2BufWords := 17, fifoDepth := 64 } : Params).wf := by decide

/-- OutHiPeeksAndOutLoPops: an empty FIFO and one with records. -/
theorem test_fifo_clauses : State.reset.fifo = [] ∧ (fullOpen .scan).fifo = someRecord :: [someRecord] := by
  decide +kernel

/-- UnmappedAndReadOnlyAccessesDoNothing: addresses at the ends of each class. -/
theorem test_address_clauses : 0x48 ≤ (0x48#7).toNat ∧ 0x48 ≤ (0x7F#7).toNat ∧
    (0x03#7).toNat / 4 ∈ [0, 4, 5, 9, 10, 11, 12, 13, 14, 15, 16, 17] ∧
    (0x47#7).toNat / 4 ∈ [0, 4, 5, 9, 10, 11, 12, 13, 14, 15, 16, 17] := by decide

/-- START, FLUSH and AEND: no open message, one with room, and one that holds. -/
theorem test_close_clauses :
    ((inState .start).openF = false ∧ 2 ≤ free (inState .start)) ∧
    ((fullOpen .start).openF = true ∧ free (fullOpen .start) = 0 ∧ free (fullOpen .flush) < 1 + true.toNat) ∧
    ({ fullOpen .aend with fifo := [someRecord] }.openF = true ∧ 1 ≤ free { fullOpen .aend with fifo := [someRecord] }) ∧
    2 ≤ free { fullOpen .flush with fifo := [] } := by decide +kernel

/-- ScanFollowsItsBranches: the end of the input, an unwritten window, no match, a complete and an incomplete batch, and
a hold. -/
theorem test_scan_clauses :
    (withWord 7#32 31).len.toNat < (withWord 7#32 31).scanP + 32 ∧
    ((withWord 7#32 32).scanP + 32 ≤ (withWord 7#32 32).len.toNat ∧ window (withWord 7#32 32).ibb 0 = some 7#32 ∧
      7#32 ≠ 0x7CD215D8#32 ∧ window State.reset.ibb 0 = none) ∧
    (window (withWord preambleWord 544).ibb 0 = some 0x7CD215D8#32 ∧ 0 + 32 + 512 ≤ (withWord preambleWord 544).len.toNat) ∧
    ((withWord preambleWord 543).len.toNat < 0 + 544 ∧ 1 ≤ free (withWord preambleWord 543)) ∧
    free { withWord preambleWord 543 with fifo := List.replicate 64 someRecord } = 0 := by decide +kernel

/-- BatchTakesOneCodeword: a hold and an accepted codeword, in the middle and at the end of a batch. -/
theorem test_batch_clauses :
    window (writeWord [] 1 idleWord) (0 + 32 + 32 * (0#4).toNat) = some idleWord ∧
    need idleWord State.reset ≤ free State.reset ∧ free (fullOpen .batch) < need idleWord (fullOpen .batch) ∧
    (0#4 ≠ 15#4) ∧ window (writeWord [] 16 idleWord) (0 + 32 + 32 * (15#4).toNat) = some idleWord ∧
    window [] (0 + 32 + 32 * (15#4).toNat) = none := by decide +kernel

/-- CodewordStepFollowsTheType and AsmAndAendCompleteTheirCommand: a word of each type, with and without an open
message, with and without room. -/
theorem test_codeword_clauses :
    typeOf (correctWord 0x07E35696#32).w2 = .address ∧ typeOf (correctWord 0x7A89C196#32).w2 = .idle ∧
    typeOf (correctWord 0x07074238#32).w2 = .message ∧ State.reset.openF = false ∧ (fullOpen .asm).openF = true ∧
    need 0x07E35696#32 State.reset ≤ free State.reset ∧ free (fullOpen .asm) < need 0x07E35696#32 (fullOpen .asm) := by
  decide +kernel

/-- EngineStepFrame, EngineStepsRunOut and the first clause of StickyBitsHaveTheirOwnWriters: an engine step that
answers. -/
theorem test_engine_step_answers : completes (engineStep (withWord 7#32 32)) = true ∧
    completes (engineStep { withWord 7#32 32 with estate := .scan }) = true ∧
    completes (engineStep (fullOpen .flush)) = true := by decide +kernel

/-- StepRunsTheDecodedCommand: an agenda of each kind. -/
theorem test_agenda_clauses :
    (State.reset.withFetchWord 32 0x1100000F).agenda = [.host (.write 0x04#7 0x1100000F#32)] ∧
    (0x04#7).toNat / 4 = 1 ∧ (0x07#7).toNat / 4 = 1 ∧ decode 0x1100000F#32 = .ok (.asmcw 15#4) ∧
    { State.reset with agenda := [.engine] }.agenda = .engine :: [] ∧
    { State.reset with agenda := [.rst none] }.agenda = .rst none :: [] ∧ State.reset.agenda = [] := by decide +kernel

/-- The ranges the reset state meets. -/
theorem reset_in_range : State.reset.params.wf ∧ State.reset.bufaddr.toNat < State.reset.params.bufWords ∧
    State.reset.scanP ≤ State.reset.params.bufBits ∧ State.reset.fifo.length ≤ State.reset.params.fifoDepth := by decide

/-- A written word makes a well-formed state. -/
theorem inv_withWord (w : Word) {L : Nat} (hL : L ≤ 65536) : Inv (withWord w L) := by
  have hlen : (withWord w L).len.toNat = L := by simp [withWord]; omega
  have hp := reset_in_range
  refine ⟨hp.1, Memory.wf_writeWord Memory.wf_nil 0 w, ?_, hp.2.2.2, fun r hr => ?_, ?_, hp.2.1, hp.2.2.1, fun h => ?_⟩
  · intro a
    by_cases h : a < 4
    · obtain ⟨h0, h1, h2, h3⟩ := readByte_writeWord_same [] 0 w
      have ha : a / 4 = 0 := by omega
      have hb : (readByte (writeWord [] 0 w) a).isSome = true := by
        obtain rfl | rfl | rfl | rfl : a = 0 ∨ a = 1 ∨ a = 2 ∨ a = 3 := by omega
        · simpa using congrArg Option.isSome h0
        · simpa using congrArg Option.isSome h1
        · simpa using congrArg Option.isSome h2
        · simpa using congrArg Option.isSome h3
      have hlt : a < 4 * State.reset.params.bufWords := lt_of_lt_of_le h (by decide)
      exact ⟨by simp [withWord, ha, hb], fun _ => hlt⟩
    · have hb : readByte (writeWord [] 0 w) a = none := by
        rw [readByte_writeWord_other _ _ (by omega)]
        rfl
      have hw : readWord (writeWord [] 0 w) (a / 4) = none := by
        rw [readWord_writeWord_other _ _ (by omega)]
        rfl
      exact ⟨by simp [withWord, hb, hw], fun hs => by simp [withWord, hb] at hs⟩
  · cases hr
  · rw [hlen]
    exact hL
  · cases h

/-- The invariant statements and StepKeepsTheInvariant: a well-formed state whose engine step answers. -/
theorem test_invariant_hypotheses : Inv (withWord preambleWord 32) ∧ completes (step (withWord preambleWord 32)) = true :=
  ⟨inv_withWord _ (by decide), by decide +kernel⟩

/-- The reset state with an agenda, an engine state, a scan position, a codeword index and a LEN: no word is written. -/
def unwritten (agenda : List PortEvent) (e : EState) (p L : Nat) (k : BitVec 4) : State :=
  { State.reset with agenda := agenda, estate := e, len := BitVec.ofNat 32 L, scanP := p, cwK := k }

/-- Such a state is well formed when LEN and P are legal and any batch lies inside LEN. -/
theorem inv_unwritten (agenda : List PortEvent) {e : EState} {p L : Nat} (k : BitVec 4) (hL : L ≤ 65536)
    (hp : p ≤ 65536) (hb : e = .batch → p + 544 ≤ L) : Inv (unwritten agenda e p L k) := by
  have hlen : (BitVec.ofNat 32 L).toNat = L := by simp; omega
  have hr := reset_in_range
  refine ⟨hr.1, Memory.wf_nil, fun a => ⟨rfl, fun h => ?_⟩, hr.2.2.2, fun r hr => ?_, ?_, hr.2.1, hp, fun he => ?_⟩
  · cases h
  · cases hr
  · exact hlen.le.trans hL
  · exact (hb he).trans hlen.ge

/-- StepFaultsOnlyOnUnwrittenWords: the ways a step faults, each in a well-formed state: a read and a poll of BUFDATA, at
both ends of its address range, SCAN at LEN, and the last codeword of a batch that ends at LEN. -/
theorem test_fault_hypotheses :
    (Inv (unwritten [.host (.read 0x20#7)] .idle 0 0 0#4) ∧ (0x20#7).toNat / 4 = 8 ∧
      step (unwritten [.host (.read 0x20#7)] .idle 0 0 0#4) = .fault .unwrittenBufdata) ∧
    (Inv (unwritten [.poll 0x23#7 1#32 0#32] .idle 0 0 0#4) ∧ (0x23#7).toNat / 4 = 8 ∧
      step (unwritten [.poll 0x23#7 1#32 0#32] .idle 0 0 0#4) = .fault .unwrittenBufdata) ∧
    (Inv (unwritten [] .scan 0 32 0#4) ∧ step (unwritten [] .scan 0 32 0#4) = .fault .unwrittenWindow) ∧
    (Inv (unwritten [.engine] .batch 0 544 15#4) ∧
      codewordPos (unwritten [.engine] .batch 0 544 15#4) + 32 = 544 ∧
      step (unwritten [.engine] .batch 0 544 15#4) = .fault .unwrittenWindow) := by
  refine ⟨⟨inv_unwritten _ _ (by decide) (by decide) fun h => ?_, by decide, rfl⟩,
    ⟨inv_unwritten _ _ (by decide) (by decide) fun h => ?_, by decide, rfl⟩,
    ⟨inv_unwritten _ _ (by decide) (by decide) fun h => ?_, rfl⟩,
    ⟨inv_unwritten _ _ (by decide) (by decide) fun _ => by decide, rfl, rfl⟩⟩ <;> cases h

/-- StepKeepsTheRunFlags: a state with a RUN in progress. -/
theorem test_run_flags_hypotheses : RunFlagsInv { withWord preambleWord 32 with estate := .scan, stSync := true } ∧
    completes (step { withWord preambleWord 32 with estate := .scan, stSync := true }) = true := by
  refine ⟨⟨fun _ => ⟨rfl, rfl⟩, fun h => ?_, fun _ => rfl, fun h => ?_, fun _ => rfl⟩, by decide +kernel⟩ <;>
    exact absurd h (by decide)

/-- A transmission of one written word is loaded. -/
theorem loaded_withWord (w : Word) : Loaded (withWord w 32) := by
  intro i hi
  have : i = 0 := by
    have : (withWord w 32).len.toNat = 32 := rfl
    omega
  subst this
  show (readWord (writeWord [] 0 w) 0).isSome = true
  simp

/-- LoadedRunNeverFaults and RunComputesItsMeaning: a RUN over one word that is a preamble (V-RUN-05). -/
theorem test_run_hypotheses :
    Inv (withWord preambleWord 32) ∧ Loaded (withWord preambleWord 32) ∧ busy (withWord preambleWord 32) = false ∧
    (withWord preambleWord 32).agenda = [] ∧
    (runAssembly (after (exec .run (withWord preambleWord 32)))).fifo.length + 1 ≤
      (withWord preambleWord 32).params.fifoDepth :=
  ⟨inv_withWord _ (by decide), loaded_withWord _, by decide, by decide, by decide +kernel⟩

/-- BusyFallsOnlyAtTheEndOfACommand: each of the ways BUSY falls. -/
theorem test_busy_falls :
    (busy (inState .flush) = true ∧ busy (after (step (inState .flush))) = false) ∧
    (busy (inState .aend) = true ∧ busy (after (step (inState .aend))) = false) ∧
    (busy (after (step { inState .asm with agenda := [.engine] })) = false) ∧
    (busy (after (step ((inState .scan).withFetchWord 32 0x1F000000))) = false) ∧
    (busy (after (step { inState .scan with agenda := [.rst none] })) = false) := by decide +kernel

/-- StickyBitsHaveTheirOwnWriters: accesses that set and clear each bit. -/
theorem test_sticky_clauses :
    (after (hostAccess (.write 0x04#7 0x06000000#32) State.reset)).errIllegal = true ∧
    (after (hostAccess (.write 0x04#7 0x00000000#32) (inState .scan))).errBusy = true ∧
    (after (hostAccess (.write 0x04#7 0x08000000#32) State.reset)).errArg = true ∧
    (after (hostAccess (.write 0x08#7 0x37000000#32) { State.reset with
      errIllegal := true, errBusy := true, errArg := true, stOrphan := true, stUncorr := true })) = State.reset ∧
    completes (hostAccess (.read 0x08#7) State.reset) = true ∧
    (after (step ({ State.reset with stUncorr := true }.withFetchWord 32 0x1F000000))).stUncorr = false ∧
    (after (step { State.reset with stOrphan := true, agenda := [.rst none] })).stOrphan = false ∧
    (after (step { State.reset with errArg := true, agenda := [.host (.write 0x08#7 0x04000000#32)] })).errArg = false := by
  decide +kernel

end Sys2Proof.Tests
end

section
/-! What each agent's turn can do, as relations between a state and the next one with one named case per outcome: the
engine (42_frame_parser.md R207 to R214, 43_message_assembler.md R247, R248), a write and a read of the host port
(10_state.md R40), and a whole step (20_memory.md R81). Each relation is tied to the model by one `of_` lemma, and the
proofs about all steps are case splits over it. -/

namespace Sys2Proof.Machine

/-! ### The engine's turn -/

/-- What the engine's turn can turn s into. -/
inductive EngineMove (s : State) : State → Prop
  /-- No engine command, or a step that waits for the FIFO. -/
  | hold : EngineMove s s
  | start : s.estate = .start → s.openF.toNat ≤ free s →
      EngineMove s (setEstate .scan (closeIfOpen .endOfInput s))
  | scanEnd : s.estate = .scan → EngineMove s (setEstate .flush s)
  | scanNext : s.estate = .scan → s.scanP + 32 ≤ s.len.toNat → EngineMove s { s with scanP := s.scanP + 1 }
  | scanBatch : s.estate = .scan → s.scanP + 544 ≤ s.len.toNat → EngineMove s (scanMatch s)
  | scanIncomplete : s.estate = .scan → 1 ≤ free s → EngineMove s (scanIncomplete s)
  | batch (raw : Word) : s.estate = .batch → need raw s ≤ free s →
      EngineMove s (advanceBatch (codewordStep raw s.cwK s))
  | flush : s.estate = .flush → 1 + s.openF.toNat ≤ free s → EngineMove s (finishRun (closeIfOpen .endOfInput s))
  | asm : s.estate = .asm → need s.jobW s ≤ free s →
      EngineMove s (setEstate .idle (codewordStep s.jobW s.jobI s))
  | aend : s.estate = .aend → s.openF.toNat ≤ free s → EngineMove s (setEstate .idle (closeIfOpen .endOfInput s))

/-- A step that pushes m records is a move of the engine when it is one with that room in the FIFO. -/
theorem EngineMove.of_whenFree {m : Nat} {s : State} {f : State → State} (h : m ≤ free s → EngineMove s (f s)) :
    EngineMove s (whenFree m s f) := by
  obtain ⟨-, e⟩ | ⟨hm, e⟩ := whenFree_cases m s f <;> rw [e]
  · exact .hold
  · exact h hm

theorem EngineMove.of_stepScan {s t : State} (he : s.estate = .scan) (h : stepScan s = .next t) : EngineMove s t := by
  obtain ⟨-, e⟩ | ⟨-, -, e⟩ | ⟨hl, -, -, -, e⟩ | ⟨hb, -, e⟩ | ⟨-, -, -, e⟩ := stepScan_cases s <;>
    rw [e] at h <;> cases h
  · exact .scanEnd he
  · exact .scanNext he hl
  · exact .scanBatch he hb
  · exact .of_whenFree (.scanIncomplete he)

theorem EngineMove.of_stepBatch {s t : State} (he : s.estate = .batch) (h : stepBatch s = .next t) :
    EngineMove s t := by
  obtain ⟨-, e⟩ | ⟨raw, -, -, e⟩ | ⟨raw, -, hn, e⟩ := stepBatch_cases s <;> rw [e] at h <;> cases h
  · exact .hold
  · exact .batch raw he hn

/-- The engine's turn makes one of the moves. -/
theorem EngineMove.of_engineStep {s t : State} (h : engineStep s = .next t) : EngineMove s t := by
  obtain ⟨he, e⟩ | ⟨he, e⟩ | ⟨he, e⟩ | ⟨he, e⟩ | ⟨he, e⟩ | ⟨he, e⟩ | ⟨he, e⟩ := engineStep_cases s <;> rw [e] at h
  · cases h
    exact .hold
  · cases h
    exact .of_whenFree (.start he)
  · exact .of_stepScan he h
  · exact .of_stepBatch he h
  · cases h
    exact .of_whenFree (.flush he)
  · cases h
    exact .of_whenFree (.asm he)
  · cases h
    exact .of_whenFree (.aend he)

/-! ### A write of the host port -/

/-- What a write of v to the register r can turn s into. -/
inductive WriteMove (r : Reg) (v : Word) (s : State) : State → Prop
  /-- A read-only register, an unmapped offset, or NOP. -/
  | ignored : WriteMove r v s s
  | refused : busy s = true → r ∈ [.cmd, .len, .bufdata] → WriteMove r v s { s with errBusy := true }
  | reset : r = .cmd → (opOf v).toNat = 0x1F → WriteMove r v s (resetBlock s)
  | illegal (e : Reject) : r = .cmd → busy s = false → decode v = .error e →
      WriteMove r v s { s with errIllegal := true }
  | illegalWidth : r = .cmd → busy s = false → (opOf v).toNat ∈ [0x08, 0x09] → ¬ LegalWidth (arg1Of v) →
      WriteMove r v s { s with errArg := true }
  | results (r0 r1 : Word) : WriteMove r v s (setResults r0 r1 s)
  | run : busy s = false → WriteMove r v s (startRun s)
  | asmcw (tag : BitVec 4) : busy s = false → WriteMove r v s { s with jobW := s.opa, jobI := tag, estate := .asm }
  | asmend : busy s = false → WriteMove r v s (setEstate .aend s)
  | statclr : WriteMove r v s (clearStats s)
  | status : r = .status → WriteMove r v s (writeStatus v s)
  | opa : WriteMove r v s { s with opa := v }
  | len : busy s = false → WriteMove r v s { s with len := BitVec.ofNat 32 (min v.toNat s.params.bufBits) }
  | bufaddr : WriteMove r v s (writeBufaddr v s)
  | bufdata : busy s = false → WriteMove r v s (bumpBufaddr { s with ibb := writeWord s.ibb s.bufaddr.toNat v })

/-- An access that is refused while BUSY is a move when its acceptance is one. -/
theorem WriteMove.of_accept {r : Reg} {v : Word} {s : State} {f : State → State} (hr : r ∈ [.cmd, .len, .bufdata])
    (h : busy s = false → WriteMove r v s (f s)) : WriteMove r v s (accept s f) := by
  obtain ⟨hb, e⟩ | ⟨hb, e⟩ := accept_cases s f <;> rw [e]
  · exact .refused hb hr
  · exact h hb

/-- The decoder reads a command from its own OP value. -/
theorem opOf_of_decode {c : Word} {i : Instr} (h : decode c = .ok i) : (opOf c).toNat = (opcode i).toNat := by
  unfold decode at h
  split at h <;> cases h <;> assumption

/-- The group width of PACKM and PACKL is the field ARG1. -/
theorem arg1Of_of_decode {c : Word} {g : BitVec 8} (h : decode c = .ok (.packm g) ∨ decode c = .ok (.packl g)) :
    arg1Of c = g := by
  unfold decode at h
  split at h <;> simp_all

/-- A command of a group width is a move: it writes its results or raises ERR_ARG. -/
theorem WriteMove.of_withWidth {v : Word} {g : BitVec 8} {s : State} {f : State → State}
    (hd : decode v = .ok (.packm g) ∨ decode v = .ok (.packl g)) (hf : WriteMove .cmd v s (f s)) :
    WriteMove .cmd v s (accept s fun s => withWidth g s f) := by
  refine .of_accept (by simp) fun hb => ?_
  obtain ⟨-, e⟩ | ⟨hg, e⟩ := withWidth_cases g s f
  · exact e ▸ hf
  · refine e ▸ .illegalWidth rfl hb ?_ (arg1Of_of_decode hd ▸ hg)
    obtain hd | hd := hd <;> simp [opOf_of_decode hd, opcode]

/-- Every command's acceptance is a move. -/
theorem WriteMove.of_exec {v : Word} {i : Instr} (hd : decode v = .ok i) (s : State) :
    ∃ t, exec i s = .next t ∧ WriteMove .cmd v s t := by
  cases i with
  | nop => exact ⟨_, rfl, .of_accept (by simp) fun _ => .ignored⟩
  | packm g => exact ⟨_, rfl, .of_withWidth (.inl hd) (.results _ _)⟩
  | packl g => exact ⟨_, rfl, .of_withWidth (.inr hd) (.results _ _)⟩
  | run => exact ⟨_, rfl, .of_accept (by simp) .run⟩
  | asmcw tag => exact ⟨_, rfl, .of_accept (by simp) (.asmcw tag)⟩
  | asmend => exact ⟨_, rfl, .of_accept (by simp) .asmend⟩
  | statclr => exact ⟨_, rfl, .of_accept (by simp) fun _ => .statclr⟩
  | sreset => exact ⟨_, rfl, .reset rfl (opOf_of_decode hd)⟩
  | synd | parity | correct | classify | decode | bcd5 =>
    exact ⟨_, rfl, .of_accept (by simp) fun _ => .results _ _⟩

/-- A write to CMD makes one of the moves. -/
theorem WriteMove.of_writeCmd {v : Word} {s t : State} (h : writeCmd v s = .next t) : WriteMove .cmd v s t := by
  obtain ⟨i, hd, e⟩ | ⟨x, hd, e⟩ := writeCmd_cases v s <;> rw [e] at h
  · obtain ⟨u, eu, hu⟩ := WriteMove.of_exec hd s
    rw [eu] at h
    cases h
    exact hu
  · cases h
    exact .of_accept (by simp) fun hb => .illegal x rfl hb hd

/-- A write makes one of the moves. -/
theorem WriteMove.of_writeReg {r : Reg} {v : Word} {s t : State} (h : writeReg r v s = .next t) :
    WriteMove r v s t := by
  obtain ⟨rfl, e⟩ | ⟨hr, e⟩ | ⟨-, e⟩ | ⟨rfl, e⟩ | ⟨-, e⟩ | ⟨rfl, e⟩ | e := writeReg_cases r v s <;> rw [e] at h
  · exact .of_writeCmd h
  all_goals cases h
  · exact .status hr
  · exact .opa
  · exact .of_accept (by simp) .len
  · exact .bufaddr
  · exact .of_accept (by simp) .bufdata
  · exact .ignored

/-! ### A read of the host port -/

/-- What a read can turn s into. -/
inductive ReadMove (s : State) : State → Prop
  | answer (v : Word) : ReadMove s (answer v s)
  | bufdata (v : Word) : ReadMove s (bumpBufaddr (Machine.answer v s))
  | outLo (v : Word) : ReadMove s (pop (Machine.answer v s))

/-- A read that answers makes one of the moves. -/
theorem ReadMove.of_readReg {r : Reg} {s t : State} (h : readReg r s = .next t) : ReadMove s t := by
  obtain ⟨v, e⟩ | ⟨-, e⟩ | ⟨x, xs, -, -, e⟩ := readReg_cases r s <;> rw [e] at h
  · cases h
    exact .answer v
  · obtain ⟨-, e'⟩ | ⟨v, -, e'⟩ := readBufdata_cases s <;> rw [e'] at h <;> cases h
    exact .bufdata v
  · cases h
    exact .outLo x.lo

/-! ### A step -/

/-- The state with the next event taken off the agenda. -/
def takeEvent (s : State) : State := { s with agenda := s.agenda.tail }

/-- What a step can turn s into, by the agent that moves. -/
inductive StepMove (s : State) : State → Prop
  | engine {t : State} : (s.agenda = [] ∨ ∃ rest, s.agenda = .engine :: rest) → EngineMove (takeEvent s) t →
      StepMove s t
  | write {a : BitVec 7} {v : Word} {rest : List PortEvent} {t : State} : s.agenda = .host (.write a v) :: rest →
      WriteMove (regAt a) v (takeEvent s) t → StepMove s t
  /-- A read of the host, alone or as a turn of one of its loops. -/
  | read (es : List PortEvent) {t : State} : ReadMove (takeEvent s) t → StepMove s (schedule es t)
  | rst {att : Option HostAccess} {rest : List PortEvent} : s.agenda = .rst att :: rest →
      StepMove s (rstCycle att (takeEvent s))

theorem takeEvent_of_nil {s : State} (h : s.agenda = []) : takeEvent s = s := by
  cases s
  cases h
  rfl

theorem takeEvent_of_cons {s : State} {e : PortEvent} {rest : List PortEvent} (h : s.agenda = e :: rest) :
    takeEvent s = { s with agenda := rest } := by
  rw [takeEvent, h, List.tail_cons]

/-- An event at the head of the agenda makes one of the moves. -/
theorem StepMove.of_portEvent {s t : State} {e : PortEvent} {rest : List PortEvent} (ha : s.agenda = e :: rest)
    (h : portEvent e (takeEvent s) = .next t) : StepMove s t := by
  cases e with
  | host acc =>
    cases acc with
    | read a => exact .read [] (.of_readReg h)
    | write a v => exact .write ha (.of_writeReg h)
  | engine => exact .engine (.inr ⟨rest, ha⟩) (.of_engineStep h)
  | rst att =>
    cases h
    exact .rst ha
  | poll a mask v =>
    obtain ⟨u, es, hu, e⟩ | ⟨f, -, e⟩ | ⟨f, -, e⟩ := pollTurn_cases a mask v (takeEvent s) <;>
      cases e.symm.trans h
    exact .read es (.of_readReg hu)
  | drain =>
    obtain ⟨es, e⟩ := drainTurn_cases (takeEvent s)
    cases h
    exact e ▸ .read es (.answer _)
  | drainUntilDone =>
    obtain ⟨es, e⟩ := drainUntilDoneTurn_cases (takeEvent s)
    cases h
    exact e ▸ .read es (.answer _)

/-- A step makes one of the moves. -/
theorem StepMove.of_step {s t : State} (h : step s = .next t) : StepMove s t := by
  obtain ⟨ha, e⟩ | ⟨ev, rest, ha, e⟩ := step_cases s <;> rw [e] at h
  · exact .engine (.inl ha) (.of_engineStep ((takeEvent_of_nil ha).symm ▸ h))
  · exact .of_portEvent ha ((takeEvent_of_cons ha).symm ▸ h)

end Sys2Proof.Machine
end

section
/-! Every step keeps the well-formedness of the state (Safety.lean): which fields it is about, what the engine pushes,
and one lemma for each agent's move. -/

namespace Sys2Proof.Machine

/-! ### The fields the invariant is about -/

/-- The invariant speaks of the parameters, the buffer, the FIFO, LEN, BUFADDR, P and ESTATE only. -/
theorem Inv.frame {s t : State} (h : Inv s) (params : t.params = s.params := by rfl) (ibb : t.ibb = s.ibb := by rfl)
    (fifo : t.fifo = s.fifo := by rfl) (len : t.len = s.len := by rfl) (bufaddr : t.bufaddr = s.bufaddr := by rfl)
    (scanP : t.scanP = s.scanP := by rfl) (batch : t.estate = .batch → s.estate = .batch := by exact id) : Inv t where
  params := params ▸ h.params
  ibbWf := ibb ▸ h.ibbWf
  ibbWhole := fun a => by simpa only [ibb, params] using h.ibbWhole a
  fifoFits := by simpa only [fifo, params] using h.fifoFits
  fifoKinds := fifo ▸ h.fifoKinds
  lenLegal := by simpa only [len, params, Params.bufBits] using h.lenLegal
  bufaddrLegal := by simpa only [bufaddr, params] using h.bufaddrLegal
  scanLegal := by simpa only [scanP, params] using h.scanLegal
  batchFits := fun hb => by simpa only [scanP, len] using h.batchFits (batch hb)

/-- BUF_WORDS is 1 to 65536 (00_scope.md R6). -/
theorem bufWords_pos (p : Params) : 0 < p.bufWords := Nat.two_pow_pos _

theorem bufWords_le {p : Params} (h : p.wf) : p.bufWords ≤ 65536 := Nat.pow_le_pow_right (by decide) h.1

/-- An address legalised by a remainder is stored as it is (10_state.md R45). -/
theorem toNat_ofNat_mod_bufWords {p : Params} (h : p.wf) (n : Nat) :
    (BitVec.ofNat 32 (n % p.bufWords)).toNat = n % p.bufWords := by
  have hlt : n % p.bufWords < p.bufWords := Nat.mod_lt n (bufWords_pos p)
  have hle : p.bufWords ≤ 65536 := bufWords_le h
  rw [BitVec.toNat_ofNat, Nat.mod_eq_of_lt (by omega)]

/-- A length legalised by BUF_BITS is stored as it is (10_state.md R44). -/
theorem toNat_ofNat_min_bufBits {p : Params} (h : p.wf) (n : Nat) :
    (BitVec.ofNat 32 (min n p.bufBits)).toNat = min n p.bufBits := by
  have hle : p.bufWords ≤ 65536 := bufWords_le h
  rw [BitVec.toNat_ofNat, Nat.mod_eq_of_lt (by unfold Params.bufBits; omega)]

/-! ### Reset -/

/-- The reset values meet the invariant over every buffer that does (10_state.md R58, 70_reset_and_hazards.md R321). -/
theorem inv_resetWith {p : Params} {agenda : List PortEvent} {rdata : Word} {ibb : List Host.Cell} (hp : p.wf)
    (hwf : Memory.wf ibb)
    (hwhole : WholeWords { State.resetWith p with agenda := agenda, rdata := rdata, ibb := ibb }) :
    Inv { State.resetWith p with agenda := agenda, rdata := rdata, ibb := ibb } where
  params := hp
  ibbWf := hwf
  ibbWhole := hwhole
  fifoFits := Nat.zero_le _
  fifoKinds := fun _ hr => nomatch hr
  lenLegal := Nat.zero_le _
  bufaddrLegal := bufWords_pos p
  scanLegal := Nat.zero_le _
  batchFits := fun hb => nomatch hb

theorem Inv.resetBlock {s : State} (h : Inv s) : Inv (resetBlock s) := inv_resetWith h.params h.ibbWf h.ibbWhole

/-! ### The host port -/

/-- Every byte of a written word is written. -/
theorem readByte_writeWord_isSome (m : List Host.Cell) {i a : Nat} (v : Word) (h : a / 4 = i) :
    (readByte (writeWord m i v) a).isSome := by
  obtain ⟨h0, h1, h2, h3⟩ := readByte_writeWord_same m i v
  obtain rfl | rfl | rfl | rfl : a = 4 * i ∨ a = 4 * i + 1 ∨ a = 4 * i + 2 ∨ a = 4 * i + 3 := by omega
  · exact h0 ▸ rfl
  · exact h1 ▸ rfl
  · exact h2 ▸ rfl
  · exact h3 ▸ rfl

/-- A word write inside the buffer keeps it made of whole words (20_memory.md R83, R85, R87). -/
theorem WholeWords.writeWord {s : State} (h : WholeWords s) {i : Nat} (hi : i < s.params.bufWords) (v : Word) :
    WholeWords { s with ibb := writeWord s.ibb i v } := by
  intro a
  by_cases ha : a / 4 = i
  · have hb : (readByte (Machine.writeWord s.ibb i v) a).isSome := readByte_writeWord_isSome s.ibb v ha
    have hw : readWord (Machine.writeWord s.ibb i v) (a / 4) = some v := ha ▸ readWord_writeWord_same s.ibb i v
    exact ⟨hb.trans (hw ▸ rfl), fun _ => show a < 4 * s.params.bufWords by omega⟩
  · have hb : readByte (Machine.writeWord s.ibb i v) a = readByte s.ibb a :=
      readByte_writeWord_other s.ibb v (by omega)
    have hw : readWord (Machine.writeWord s.ibb i v) (a / 4) = readWord s.ibb (a / 4) :=
      readWord_writeWord_other s.ibb v ha
    simpa only [hb, hw] using h a

theorem Inv.bumpBufaddr {s : State} (h : Inv s) : Inv (bumpBufaddr s) :=
  { h with
    bufaddrLegal := by
      show (BitVec.ofNat 32 ((s.bufaddr.toNat + 1) % s.params.bufWords)).toNat < s.params.bufWords
      rw [toNat_ofNat_mod_bufWords h.params]
      exact Nat.mod_lt _ (bufWords_pos _) }

theorem Inv.writeBufaddr {s : State} (h : Inv s) (v : Word) : Inv (writeBufaddr v s) :=
  { h with
    bufaddrLegal := by
      show (BitVec.ofNat 32 (v.toNat % s.params.bufWords)).toNat < s.params.bufWords
      rw [toNat_ofNat_mod_bufWords h.params]
      exact Nat.mod_lt _ (bufWords_pos _) }

/-- LEN changes while the engine is idle only, so no batch depends on it. -/
theorem Inv.writeLen {s : State} (h : Inv s) (hb : busy s = false) (v : Word) :
    Inv { s with len := BitVec.ofNat 32 (min v.toNat s.params.bufBits) } :=
  { h with
    lenLegal := by
      show (BitVec.ofNat 32 (min v.toNat s.params.bufBits)).toNat ≤ s.params.bufBits
      rw [toNat_ofNat_min_bufBits h.params]
      exact min_le_right _ _
    batchFits := fun he => nomatch (busy_eq_false.mp hb).symm.trans he }

theorem Inv.writeIbb {s : State} (h : Inv s) (v : Word) :
    Inv { s with ibb := writeWord s.ibb s.bufaddr.toNat v } :=
  { h with
    ibbWf := Memory.wf_writeWord h.ibbWf _ v
    ibbWhole := h.ibbWhole.writeWord h.bufaddrLegal v }

theorem Inv.pop {s : State} (h : Inv s) : Inv (pop s) :=
  { h with
    fifoFits := (List.length_tail.trans_le (Nat.sub_le _ _)).trans h.fifoFits
    fifoKinds := fun r hr => h.fifoKinds r (List.mem_of_mem_tail hr) }

theorem Inv.startRun {s : State} (h : Inv s) : Inv (startRun s) :=
  { h with
    scanLegal := Nat.zero_le _
    batchFits := fun he => nomatch he }

theorem WriteMove.inv {r : Reg} {v : Word} {s t : State} (m : WriteMove r v s t) (h : Inv s) : Inv t := by
  cases m with
  | ignored => exact h
  | reset => exact h.resetBlock
  | run => exact h.startRun
  | asmcw | asmend => exact h.frame (batch := fun he => nomatch he)
  | len hb => exact h.writeLen hb v
  | bufaddr => exact h.writeBufaddr v
  | bufdata => exact (h.writeIbb v).bumpBufaddr
  | refused | illegal | illegalWidth | results | statclr | status | opa => exact h.frame

theorem ReadMove.inv {s t : State} (m : ReadMove s t) (h : Inv s) : Inv t := by
  have ha (v : Word) : Inv (Machine.answer v s) := h.frame
  cases m with
  | answer v => exact ha v
  | bufdata v => exact (ha v).bumpBufaddr
  | outLo v => exact (ha v).pop

/-! ### What the engine pushes -/

/-- t's FIFO is s's with m more records at the tail, of legal kinds (20_memory.md R90, 43_message_assembler.md R250). -/
def Pushes (m : Nat) (s t : State) : Prop :=
  ∃ rs, t.fifo = s.fifo ++ rs ∧ rs.length = m ∧ ∀ r ∈ rs, legalKind r

theorem Pushes.zero {s t : State} (h : t.fifo = s.fifo) : Pushes 0 s t := ⟨[], by simp [h]⟩

theorem Pushes.one {s t : State} {r : Record} (h : t.fifo = s.fifo ++ [r]) (hr : legalKind r) : Pushes 1 s t :=
  ⟨[r], h, rfl, by simpa using hr⟩

theorem Pushes.trans {m n : Nat} {s t u : State} (h : Pushes m s t) (h' : Pushes n t u) : Pushes (m + n) s u := by
  obtain ⟨rs, e, hl, hk⟩ := h
  obtain ⟨rs', e', hl', hk'⟩ := h'
  exact ⟨rs ++ rs', by simp [e, e'], by simp [hl, hl'], fun r hr => (List.mem_append.mp hr).elim (hk r) (hk' r)⟩

/-- Pushing as many records as there are free entries keeps the FIFO well formed (42_frame_parser.md R210). -/
theorem Inv.pushes {s t : State} {m : Nat} (h : Inv s) (hm : m ≤ free s) (hp : Pushes m s t)
    (params : t.params = s.params) : t.fifo.length ≤ t.params.fifoDepth ∧ ∀ r ∈ t.fifo, legalKind r := by
  obtain ⟨rs, e, hl, hk⟩ := hp
  constructor
  · rw [e, List.length_append, hl, params]
    exact length_add_le_of_free hm h.fifoFits
  · intro r hr
    rw [e] at hr
    exact (List.mem_append.mp hr).elim (h.fifoKinds r) (hk r)

@[simp] theorem recordKind_codewordRecord (kind cwi : BitVec 4) (c : Correction) :
    recordKind (codewordRecord kind cwi c) = kind := by
  simp only [recordKind, codewordRecord]
  repeat rw [BitVec.extractLsb'_append_eq_of_le (by decide)]
  simp

@[simp] theorem recordKind_closeRecord (reason : CloseReason) (mv : Bool) (pcnt : BitVec 16) (recipient : Word) :
    recordKind (closeRecord reason mv pcnt recipient) = 3#4 := by
  simp only [recordKind, closeRecord]
  repeat rw [BitVec.extractLsb'_append_eq_of_le (by decide)]
  simp

@[simp] theorem recordKind_incompleteRecord (p : Nat) : recordKind (incompleteRecord p) = 5#4 := by
  simp only [recordKind, incompleteRecord]
  rw [BitVec.extractLsb'_append_eq_of_le (by decide)]
  simp

@[simp] theorem recordKind_runDoneRecord (incomplete nosync : Bool) (batches : Word) :
    recordKind (runDoneRecord incomplete nosync batches) = 6#4 := by
  simp only [recordKind, runDoneRecord]
  repeat rw [BitVec.extractLsb'_append_eq_of_le (by decide)]
  simp

theorem closeIfOpen_pushes (c : CloseReason) (s : State) : Pushes s.openF.toNat s (closeIfOpen c s) := by
  obtain ⟨ho, e⟩ | ⟨ho, e⟩ := closeIfOpen_cases c s <;> rw [e, ho]
  · exact .one rfl (by simp [legalKind])
  · exact .zero rfl

/-- A codeword step pushes Need(raw) records (43_message_assembler.md R240). -/
theorem codewordStep_pushes (raw : Word) (k : BitVec 4) (s : State) :
    Pushes (need raw s) s (codewordStep raw k s) := by
  obtain ⟨ht, e⟩ | ⟨ht, e⟩ | ⟨ht, ho, e⟩ | ⟨ht, ho, e⟩ := codewordStep_cases raw k s <;> rw [e] <;>
    simp only [need, ht]
  · rw [Nat.add_comm]
    exact (closeIfOpen_pushes .addr (countCodeword (correctWord raw) s)).trans
      (.one rfl (by simp [legalKind]))
  · exact closeIfOpen_pushes .idle (countCodeword (correctWord raw) s)
  · exact .one rfl (by simp [legalKind])
  · exact .one rfl (by simp [legalKind])

/-! ### The engine -/

/-- An engine step that pushes what it has room for and leaves the buffer, LEN, BUFADDR and P alone. -/
theorem Inv.framePushes {s t : State} {m : Nat} (h : Inv s) (hm : m ≤ free s) (hp : Pushes m s t)
    (params : t.params = s.params := by rfl) (ibb : t.ibb = s.ibb := by rfl) (len : t.len = s.len := by rfl)
    (bufaddr : t.bufaddr = s.bufaddr := by rfl) (scanP : t.scanP = s.scanP := by rfl)
    (batch : t.estate = .batch → s.estate = .batch := by exact id) : Inv t :=
  have hframe : Inv { t with fifo := s.fifo } := h.frame params ibb rfl len bufaddr scanP batch
  have ⟨hfits, hkinds⟩ := h.pushes hm hp params
  { hframe with
    fifoFits := hfits
    fifoKinds := hkinds }

theorem Inv.closeIfOpen {s : State} (h : Inv s) (hm : s.openF.toNat ≤ free s) (c : CloseReason) :
    Inv (closeIfOpen c s) := by
  have hp := closeIfOpen_pushes c s
  rw [closeIfOpen_frame] at hp ⊢
  exact h.framePushes hm hp

theorem Inv.codewordStep {s : State} {raw : Word} (h : Inv s) (hm : need raw s ≤ free s) (k : BitVec 4) :
    Inv (codewordStep raw k s) := by
  have hp := codewordStep_pushes raw k s
  rw [codewordStep_frame] at hp ⊢
  exact h.framePushes hm hp

/-- The last push of a RUN needs an entry besides the one of the message it closes (42_frame_parser.md R214). -/
theorem Inv.finishRun {s : State} (h : Inv s) (hm : 1 + s.openF.toNat ≤ free s) :
    Inv (finishRun (Machine.closeIfOpen .endOfInput s)) := by
  have hp := closeIfOpen_pushes .endOfInput s
  rw [closeIfOpen_frame] at hp ⊢
  rw [Nat.add_comm] at hm
  exact h.framePushes hm (hp.trans (.one rfl (by simp [legalKind]))) (batch := fun he => nomatch he)

/-- ESTATE matters to the invariant only where a batch begins. -/
theorem Inv.setEstate {s : State} (h : Inv s) {e : EState} (he : e ≠ .batch) : Inv (setEstate e s) :=
  h.frame (batch := fun hb => absurd hb he)

/-- P grows only while a window at P still lies inside LEN. -/
theorem Inv.scanLegal_succ {s : State} (h : Inv s) (hs : s.scanP + 32 ≤ s.len.toNat) :
    s.scanP + 1 ≤ s.params.bufBits := by
  have hl := h.lenLegal
  omega

theorem Inv.advanceBatch {s : State} (h : Inv s) (hb : s.estate = .batch) : Inv (advanceBatch s) := by
  obtain ⟨-, e⟩ | ⟨-, e⟩ := advanceBatch_cases s <;> rw [e]
  · have hf : s.scanP + 32 + 512 ≤ s.len.toNat := h.batchFits hb
    exact { h with
      scanLegal := h.scanLegal_succ (by omega)
      batchFits := fun he => nomatch he }
  · exact h.frame

theorem EngineMove.inv {s t : State} (m : EngineMove s t) (h : Inv s) : Inv t := by
  cases m with
  | hold => exact h
  | start _ hm => exact (h.closeIfOpen hm _).setEstate (by decide)
  | scanEnd => exact h.setEstate (by decide)
  | scanNext he hs =>
    exact { h with
      scanLegal := h.scanLegal_succ hs
      batchFits := fun hb => nomatch he.symm.trans hb }
  | scanBatch _ hs => exact { h with batchFits := fun _ => hs }
  | scanIncomplete _ hm =>
    exact h.framePushes hm (.one rfl (by simp [legalKind])) (batch := fun he => nomatch he)
  | batch raw hb hm =>
    refine (h.codewordStep hm s.cwK).advanceBatch ?_
    rw [codewordStep_frame]
    exact hb
  | flush _ hm => exact h.finishRun hm
  | asm _ hm => exact (h.codewordStep hm s.jobI).setEstate (by decide)
  | aend _ hm => exact (h.closeIfOpen hm _).setEstate (by decide)

/-! ### A step -/

/-- Settles O51: whichever agent moves, its move keeps the invariant. -/
theorem stepKeepsTheInvariant : Obligations.StepKeepsTheInvariant := by
  intro s t h hs
  have ht : Inv (takeEvent s) := h.frame
  cases StepMove.of_step hs with
  | engine _ m => exact m.inv ht
  | write _ m => exact m.inv ht
  | read es m => exact (m.inv ht).frame
  | @rst att rest _ =>
    obtain e | ⟨a, -, e⟩ := rstCycle_cases att (takeEvent s) <;> rw [e]
    · exact ht.resetBlock
    · exact ht.resetBlock.frame

end Sys2Proof.Machine
end

section
/-! Every step keeps what the run flags of STATUS say of one another (Safety.lean), agent by agent. -/

namespace Sys2Proof.Machine

/-- The run-flag invariant speaks of four STATUS bits, and of ESTATE only during a RUN. -/
theorem RunFlagsInv.frame {s t : State} (h : RunFlagsInv s) (sync : t.stSync = s.stSync := by rfl)
    (done : t.stDone = s.stDone := by rfl) (nosync : t.stNosync = s.stNosync := by rfl)
    (incomplete : t.stIncomplete = s.stIncomplete := by rfl) (run : running t → running s := by exact id)
    (batch : t.estate = .batch → s.estate = .batch := by exact id) : RunFlagsInv t where
  clearWhileRunning := fun ht => by simpa only [done, nosync] using h.clearWhileRunning (run ht)
  nosyncNotSync := by simpa only [nosync, sync] using h.nosyncNotSync
  incompleteSync := by simpa only [incomplete, sync] using h.incompleteSync
  nosyncDone := by simpa only [nosync, done] using h.nosyncDone
  batchSync := fun hb => by simpa only [sync] using h.batchSync (batch hb)

/-- Outside a RUN the state of the engine does not matter. -/
theorem RunFlagsInv.frameStopped {s t : State} (h : RunFlagsInv s) (stopped : ¬ running t)
    (sync : t.stSync = s.stSync := by rfl) (done : t.stDone = s.stDone := by rfl)
    (nosync : t.stNosync = s.stNosync := by rfl) (incomplete : t.stIncomplete = s.stIncomplete := by rfl) :
    RunFlagsInv t :=
  h.frame sync done nosync incomplete (fun ht => absurd ht stopped) fun hb => absurd (.inr (.inr (.inl hb))) stopped

/-- With every run flag 0 and no batch begun, the flags say nothing (42_frame_parser.md R206, 10_state.md R58). -/
theorem runFlagsInv_clear {s : State} (sync : s.stSync = false) (done : s.stDone = false)
    (nosync : s.stNosync = false) (incomplete : s.stIncomplete = false) (batch : s.estate ≠ .batch) :
    RunFlagsInv s where
  clearWhileRunning := fun _ => ⟨done, nosync⟩
  nosyncNotSync := fun _ => sync
  incompleteSync := fun h => nomatch incomplete.symm.trans h
  nosyncDone := fun h => nomatch nosync.symm.trans h
  batchSync := fun h => absurd h batch

/-- A preamble match sets SYNC, and during a RUN NOSYNC is 0 (42_frame_parser.md R211, R212). -/
theorem RunFlagsInv.frameSync {s t : State} (h : RunFlagsInv s) (hs : running s) (sync : t.stSync = true)
    (done : t.stDone = s.stDone := by rfl) (nosync : t.stNosync = s.stNosync := by rfl) : RunFlagsInv t := by
  obtain ⟨hd, hn⟩ := h.clearWhileRunning hs
  exact {
    clearWhileRunning := fun _ => ⟨done.trans hd, nosync.trans hn⟩
    nosyncNotSync := fun ht => nomatch (nosync.trans hn).symm.trans ht
    incompleteSync := fun _ => sync
    nosyncDone := fun ht => nomatch (nosync.trans hn).symm.trans ht
    batchSync := fun _ => sync }

theorem runFlagsInv_resetBlock (s : State) : RunFlagsInv (resetBlock s) :=
  runFlagsInv_clear rfl rfl rfl rfl (by simp [State.resetWith])

theorem WriteMove.runFlags {r : Reg} {v : Word} {s t : State} (m : WriteMove r v s t) (h : RunFlagsInv s) :
    RunFlagsInv t := by
  cases m with
  | ignored => exact h
  | reset => exact runFlagsInv_resetBlock s
  | run => exact runFlagsInv_clear rfl rfl rfl rfl (by simp)
  | asmcw | asmend => exact h.frameStopped (by simp [running])
  | refused | illegal | illegalWidth | results | statclr | status | opa | len | bufaddr | bufdata => exact h.frame

theorem ReadMove.runFlags {s t : State} (m : ReadMove s t) (h : RunFlagsInv s) : RunFlagsInv t := by
  cases m <;> exact h.frame

theorem RunFlagsInv.advanceBatch {s : State} (h : RunFlagsInv s) (hb : s.estate = .batch) :
    RunFlagsInv (advanceBatch s) := by
  obtain ⟨-, e⟩ | ⟨-, e⟩ := advanceBatch_cases s <;> rw [e]
  · exact h.frame (run := fun _ => .inr (.inr (.inl hb))) (batch := fun he => nomatch he)
  · exact h.frame

/-- The end of a RUN sets NOSYNC exactly when SYNC is 0, together with DONE (42_frame_parser.md R214). -/
theorem RunFlagsInv.finishRun {s : State} (h : RunFlagsInv s) : RunFlagsInv (finishRun s) where
  clearWhileRunning := by simp [running]
  nosyncNotSync := by simp
  incompleteSync := h.incompleteSync
  nosyncDone := fun _ => rfl
  batchSync := by simp

theorem RunFlagsInv.closeIfOpen {s : State} (h : RunFlagsInv s) (c : CloseReason) : RunFlagsInv (closeIfOpen c s) := by
  rw [closeIfOpen_frame]
  exact h.frame

theorem RunFlagsInv.codewordStep {s : State} (h : RunFlagsInv s) (raw : Word) (k : BitVec 4) :
    RunFlagsInv (codewordStep raw k s) := by
  rw [codewordStep_frame]
  exact h.frame

theorem EngineMove.runFlags {s t : State} (m : EngineMove s t) (h : RunFlagsInv s) : RunFlagsInv t := by
  cases m with
  | hold => exact h
  | start he =>
    rw [closeIfOpen_frame]
    exact h.frame (run := fun _ => .inl he) (batch := fun hb => nomatch hb)
  | scanEnd he => exact h.frame (run := fun _ => .inr (.inl he)) (batch := fun hb => nomatch hb)
  | scanNext => exact h.frame
  | scanBatch he => exact h.frameSync (.inr (.inl he)) rfl
  | scanIncomplete he => exact h.frameSync (.inr (.inl he)) rfl
  | batch raw hb =>
    refine (h.codewordStep raw s.cwK).advanceBatch ?_
    rw [codewordStep_frame]
    exact hb
  | flush => exact (h.closeIfOpen _).finishRun
  | asm => exact (h.codewordStep _ _).frameStopped (by simp [running])
  | aend => exact (h.closeIfOpen _).frameStopped (by simp [running])

/-- Settles O52: whichever agent moves, its move keeps the run flags consistent. -/
theorem stepKeepsTheRunFlags : Obligations.StepKeepsTheRunFlags := by
  intro s t h hs
  have ht : RunFlagsInv (takeEvent s) := h.frame
  cases StepMove.of_step hs with
  | engine _ m => exact m.runFlags ht
  | write _ m => exact m.runFlags ht
  | read es m => exact (m.runFlags ht).frame
  | @rst att rest _ =>
    obtain e | ⟨a, -, e⟩ := rstCycle_cases att (takeEvent s) <;> rw [e]
    · exact runFlagsInv_resetBlock _
    · exact (runFlagsInv_resetBlock (takeEvent s)).frame

/-- Settles O53: the reset values over an empty buffer, with every run flag 0. -/
theorem resetMeetsTheInvariants : Obligations.ResetMeetsTheInvariants := by
  have hinv (p : Params) (hp : p.wf) : Inv (State.resetWith p) :=
    inv_resetWith hp Memory.wf_nil fun _ => ⟨rfl, fun h => nomatch h⟩
  exact fun p hp =>
    ⟨hinv p hp, runFlagsInv_clear rfl rfl rfl rfl (by simp [State.resetWith]), hinv Params.suggested (by decide)⟩

end Sys2Proof.Machine
end

section
/-! The register map (10_state.md R40 to R51): which register an address selects, the fields of STATUS and PARAM, and
what an access of each plain register does. -/

namespace Sys2Proof.Machine

/-! ### Addresses -/

theorem regAt_congr {a b : BitVec 7} (h : a.toNat / 4 = b.toNat / 4) : regAt a = regAt b := by
  unfold regAt
  rw [h]

/-- A mapped register is selected exactly by the four byte addresses of its word (10_state.md R40). -/
theorem regAt_eq_iff {r : Reg} (hr : r ≠ .unmapped) (a : BitVec 7) :
    regAt a = r ↔ a.toNat / 4 = (offsetOf r).toNat / 4 := by
  constructor
  · intro h
    unfold regAt at h
    split at h
    case h_19 => exact absurd h.symm hr
    all_goals
      subst h
      assumption
  · intro h
    have hself : regAt (offsetOf r) = r := by cases r <;> rfl
    exact (regAt_congr h).trans hself

/-- The mapped registers lie below 0x48 (10_state.md R40). -/
theorem offsetOf_lt {r : Reg} (hr : r ≠ .unmapped) : (offsetOf r).toNat < 0x48 := by
  cases r <;> simp [offsetOf] at hr ⊢

/-- The offsets from 0x48 on are unmapped (10_state.md R51). -/
theorem regAt_unmapped {a : BitVec 7} (h : 0x48 ≤ a.toNat) : regAt a = .unmapped := by
  by_contra hr
  have he : a.toNat / 4 = (offsetOf (regAt a)).toNat / 4 := (regAt_eq_iff hr a).mp rfl
  have hlt : (offsetOf (regAt a)).toNat < 0x48 := offsetOf_lt hr
  omega

/-- Clearing A[1:0] keeps the word address (20_memory.md R80). -/
theorem toNat_and_wordMask (a : BitVec 7) : (a &&& 0x7C#7).toNat / 4 = a.toNat / 4 := by
  have ha : a.toNat / 4 < 2 ^ 5 := by omega
  have hm : 124 / 2 ^ 2 = 2 ^ 5 - 1 := by decide
  calc (a &&& 0x7C#7).toNat / 4 = (a.toNat &&& 124) / 2 ^ 2 := by simp
    _ = a.toNat / 2 ^ 2 &&& 124 / 2 ^ 2 := Nat.and_div_two_pow
    _ = a.toNat / 4 := by rw [hm, Nat.and_two_pow_sub_one_eq_mod, Nat.mod_eq_of_lt ha]

/-- A write to any other register than the six writable ones is ignored (10_state.md R40, R51). -/
theorem writeReg_of_not_writable {r : Reg} (h : r ∉ [.cmd, .status, .opa, .len, .bufaddr, .bufdata]) (v : Word)
    (s : State) : writeReg r v s = .next s := by
  obtain ⟨rfl, -⟩ | ⟨rfl, -⟩ | ⟨rfl, -⟩ | ⟨rfl, -⟩ | ⟨rfl, -⟩ | ⟨rfl, -⟩ | e := writeReg_cases r v s
  case inr.inr.inr.inr.inr.inr => exact e
  all_goals simp at h

/-! ### The fields of STATUS and PARAM -/

/-- The flags of STATUS, each at its bit (10_state.md R43). -/
theorem statusWord_flags (s : State) :
    (statusWord s).getLsbD 0 = busy s ∧ (statusWord s).getLsbD 1 = s.openF ∧ (statusWord s).getLsbD 2 = s.stSync ∧
    (statusWord s).getLsbD 3 = s.stDone ∧ (statusWord s).getLsbD 4 = s.stNosync ∧
    (statusWord s).getLsbD 5 = s.stIncomplete ∧ (statusWord s).getLsbD 8 = outNe s ∧
    (statusWord s).getLsbD 9 = outFull s ∧ (statusWord s).getLsbD 24 = s.errIllegal ∧
    (statusWord s).getLsbD 25 = s.errBusy ∧ (statusWord s).getLsbD 26 = s.errArg ∧
    (statusWord s).getLsbD 27 = false ∧ (statusWord s).getLsbD 28 = s.stOrphan ∧
    (statusWord s).getLsbD 29 = s.stUncorr := by
  unfold statusWord
  refine ⟨?_, ?_, ?_, ?_, ?_, ?_, ?_, ?_, ?_, ?_, ?_, ?_, ?_, ?_⟩ <;> rw [BitVec.getLsbD_append] <;>
    simp only [BitVec.getLsbD_append] <;> simp

/-- OUT_COUNT and the reserved fields of STATUS (10_state.md R43). -/
theorem statusWord_fields (s : State) :
    (statusWord s).extractLsb' 6 2 = 0#2 ∧ (statusWord s).extractLsb' 10 6 = 0#6 ∧
    (statusWord s).extractLsb' 16 8 = BitVec.ofNat 8 s.fifo.length ∧ (statusWord s).extractLsb' 30 2 = 0#2 := by
  unfold statusWord
  refine ⟨?_, ?_, ?_, ?_⟩ <;> repeat rw [BitVec.extractLsb'_append_eq_of_le (by decide)]
  · exact BitVec.extractLsb'_append_eq_right
  · exact BitVec.extractLsb'_append_eq_right
  · exact BitVec.extractLsb'_append_eq_right
  · simp

/-- After reset STATUS reads 0: the FIFO is empty and not full, since it can hold two records (10_state.md R58). -/
theorem statusWord_resetWith {p : Params} (h : p.wf) : statusWord (State.resetWith p) = 0#32 := by
  have hfull : outFull (State.resetWith p) = false := by
    have hd : 0 ≠ p.fifoDepth := by omega
    exact decide_eq_false hd
  have hne : outNe (State.resetWith p) = false := rfl
  have hbusy : busy (State.resetWith p) = false := rfl
  rw [statusWord, hfull, hne, hbusy]
  simp [State.resetWith]

/-- FIFO_DEPTH and log2(BUF_WORDS) fit the fields of PARAM (10_state.md R50). -/
theorem paramWord_fields {p : Params} (h : p.wf) :
    ((paramWord p).extractLsb' 0 8).toNat = p.fifoDepth ∧
    ((paramWord p).extractLsb' 8 5).toNat = p.log2BufWords ∧ (paramWord p).extractLsb' 13 19 = 0#19 := by
  obtain ⟨hlog, -, hdepth⟩ := h
  unfold paramWord
  refine ⟨?_, ?_, ?_⟩
  · rw [BitVec.extractLsb'_append_eq_right, BitVec.toNat_ofNat, Nat.mod_eq_of_lt (by omega)]
  · rw [BitVec.extractLsb'_append_eq_of_le (by decide), BitVec.extractLsb'_append_eq_right, BitVec.toNat_ofNat,
      Nat.mod_eq_of_lt (by omega)]
  · rw [BitVec.extractLsb'_append_eq_of_le (by decide), BitVec.extractLsb'_append_eq_of_le (by decide)]
    simp

/-! ### The accesses -/

/-- Settles O35: the busy case is the refusal of acceptance; the others store the legalised value, which fits a word. -/
theorem lenAndBufaddrLegalise : Obligations.LenAndBufaddrLegalise := by
  intro s v hp
  refine ⟨fun hb => congrArg Host.Outcome.next (accept_busy hb _), fun hb => ?_, ?_⟩
  · have hlen := toNat_ofNat_min_bufBits hp v.toNat
    have hle : s.params.bufWords ≤ 65536 := bufWords_le hp
    refine ⟨_, congrArg Host.Outcome.next (accept_idle hb _), rfl, hlen, hlen.trans_le ?_, rfl⟩
    unfold Params.bufBits
    omega
  · exact ⟨_, rfl, rfl, toNat_ofNat_mod_bufWords hp v.toNat, rfl⟩

theorem busy_eq_decide (s : State) : busy s = decide (s.estate ≠ .idle) := by
  rw [Bool.eq_iff_iff, busy_eq_true, decide_eq_true_iff]

/-- Settles O36: STATUS is read as `statusWord`, whose fields are known one by one; the write is `writeStatus`. -/
theorem statusReadsItsFieldsAndClearsW1C : Obligations.StatusReadsItsFieldsAndClearsW1C := by
  intro s
  obtain ⟨busy, openF, sync, done, nosync, incomplete, ne, full, illegal, errBusy, arg, r27, orphan, uncorr⟩ :=
    statusWord_flags s
  obtain ⟨r6, r10, count, r30⟩ := statusWord_fields s
  exact ⟨⟨statusWord s, rfl, busy.trans (busy_eq_decide s), openF, sync, done, nosync, incomplete,
    r6, ne, full, r10, count, illegal, errBusy, arg, r27, orphan, uncorr, r30⟩, fun _ => rfl⟩

/-- Settles O39: the two low address bits do not matter to `regAt`, and each register answers its own value. -/
theorem registerReadsFollowTheMap : Obligations.RegisterReadsFollowTheMap := by
  intro s
  have halias (a : BitVec 7) : regAt a = regAt (a &&& 0x7C#7) := regAt_congr (toNat_and_wordMask a).symm
  refine ⟨fun a => ⟨?_, fun v => ?_⟩, rfl, rfl, rfl, rfl, rfl, rfl, rfl, rfl, rfl, rfl, rfl, fun hp => ?_,
    fun _ => rfl⟩
  · rw [hostAccess, hostAccess, ← halias]
  · rw [hostAccess, hostAccess, ← halias]
  · exact ⟨paramWord s.params, rfl, paramWord_fields hp⟩

/-- Settles O38: the addresses from 0x48 on select no register, and the listed ones no writable one. -/
theorem unmappedAndReadOnlyAccessesDoNothing : Obligations.UnmappedAndReadOnlyAccessesDoNothing := by
  refine fun s => ⟨fun a ha => ?_, fun a ha v => ?_⟩
  · rw [hostAccess, regAt_unmapped ha]
    exact ⟨rfl, fun v => by rw [hostAccess, regAt_unmapped ha]; rfl⟩
  · refine writeReg_of_not_writable (fun hr => ?_) v s
    have hne : regAt a ≠ .unmapped := fun hu => by simp [hu] at hr
    have hoff := (regAt_eq_iff hne a).mp rfl
    simp only [List.mem_cons, List.not_mem_nil, or_false] at hr ha
    obtain e | e | e | e | e | e := hr <;> simp [e, offsetOf] at hoff <;> omega

/-- Settles O40: every entry of the table is a field of the reset state. -/
theorem resetStateHoldsTheTable : Obligations.ResetStateHoldsTheTable := by
  refine fun p => ⟨rfl, rfl, rfl, rfl, rfl, statusWord_resetWith, rfl, rfl, rfl, rfl, rfl, rfl, rfl, rfl, rfl, rfl, rfl,
    rfl, rfl, rfl, rfl, rfl, rfl, fun _ => rfl, ⟨_, rfl, rfl⟩, fun hp => ⟨_, rfl, ?_⟩⟩
  obtain ⟨hdepth, hlog, -⟩ := paramWord_fields hp
  exact ⟨hdepth, hlog⟩

end Sys2Proof.Machine
end

section
/-! How BUSY falls and who writes the sticky error bits (10_state.md R43, R57): one lemma for each agent's move. -/

namespace Sys2Proof.Machine

/-! ### BUSY -/

/-- Inside a batch BUSY stays 1 (42_frame_parser.md R213). -/
theorem advanceBatch_not_idle {s : State} (hb : s.estate = .batch) : (advanceBatch s).estate ≠ .idle := by
  obtain ⟨-, e⟩ | ⟨-, e⟩ := advanceBatch_cases s <;> simp [e, hb]

/-- The engine's last steps are FLUSH, ASM and AEND; FLUSH and AEND close an open message
(43_message_assembler.md R252). -/
theorem EngineMove.busy_falls {s t : State} (m : EngineMove s t) (hs : busy s = true) (ht : busy t = false) :
    (s.estate = .flush ∨ s.estate = .asm ∨ s.estate = .aend) ∧ (s.estate ≠ .asm → t.openF = false) ∧
    (s.estate = .flush → t.stDone = true) := by
  have hidle : t.estate = .idle := busy_eq_false.mp ht
  cases m with
  | hold => exact absurd hidle (busy_eq_true.mp hs)
  | start | scanEnd | scanBatch | scanIncomplete => exact nomatch hidle
  | scanNext he => exact nomatch he.symm.trans hidle
  | batch raw hb =>
    refine absurd hidle (advanceBatch_not_idle ?_)
    rw [codewordStep_frame]
    exact hb
  | flush he => exact ⟨.inl he, fun _ => closeIfOpen_openF _ s, fun _ => rfl⟩
  | asm he => exact ⟨.inr (.inl he), fun hn => absurd he hn, fun hf => nomatch he.symm.trans hf⟩
  | aend he => exact ⟨.inr (.inr he), fun _ => closeIfOpen_openF _ s, fun hf => nomatch he.symm.trans hf⟩

/-- Of the writes only SRESET ends an engine command (30_encoding.md R117). -/
theorem WriteMove.busy_falls {r : Reg} {v : Word} {s t : State} (m : WriteMove r v s t) (hs : busy s = true)
    (ht : busy t = false) : r = .cmd ∧ (opOf v).toNat = 0x1F := by
  cases m with
  | reset hr hop => exact ⟨hr, hop⟩
  | run hb | asmcw _ hb | asmend hb => exact nomatch hs.symm.trans hb
  | _ => exact nomatch hs.symm.trans ht

theorem ReadMove.busy {s t : State} (m : ReadMove s t) : busy t = busy s := by
  cases m <;> rfl

theorem regAt_eq_cmd {a : BitVec 7} : regAt a = .cmd ↔ a.toNat / 4 = 1 := regAt_eq_iff (by decide) a

theorem regAt_eq_status {a : BitVec 7} : regAt a = .status ↔ a.toNat / 4 = 2 := regAt_eq_iff (by decide) a

/-- Settles O58: the agent that moves is the engine, the host with a write of SRESET, or rst. -/
theorem busyFallsOnlyAtTheEndOfACommand : Obligations.BusyFallsOnlyAtTheEndOfACommand := by
  intro s t h hs ht
  cases StepMove.of_step h with
  | engine ha m =>
    obtain ⟨he, hopen, hdone⟩ := m.busy_falls hs ht
    exact .inl ⟨he, ha, hopen, hdone⟩
  | @write a v rest _ ha m =>
    obtain ⟨hr, hop⟩ := m.busy_falls hs ht
    exact .inr (.inl ⟨a, v, rest, ha, regAt_eq_cmd.mp hr, hop⟩)
  | read es m => exact nomatch (hs.symm.trans m.busy.symm).trans ht
  | @rst att rest ha => exact .inr (.inr ⟨att, rest, ha⟩)

/-! ### The sticky bits -/

/-- The five W1C bits of STATUS (10_state.md R43, R57). -/
def stickyTable : List ((State → Bool) × Nat) :=
  [(State.errIllegal, 24), (State.errBusy, 25), (State.errArg, 26), (State.stOrphan, 28), (State.stUncorr, 29)]

theorem mem_stickyTable {bit : State → Bool} {k : Nat} (h : (bit, k) ∈ stickyTable) :
    (bit = State.errIllegal ∧ k = 24) ∨ (bit = State.errBusy ∧ k = 25) ∨ (bit = State.errArg ∧ k = 26) ∨
    (bit = State.stOrphan ∧ k = 28) ∨ (bit = State.stUncorr ∧ k = 29) := by
  simpa only [stickyTable, List.mem_cons, Prod.mk.injEq, List.not_mem_nil, or_false] using h

/-- No sticky bit falls from s to t. -/
structure StickyKept (s t : State) : Prop where
  errIllegal : s.errIllegal = true → t.errIllegal = true := by exact id
  errBusy : s.errBusy = true → t.errBusy = true := by exact id
  errArg : s.errArg = true → t.errArg = true := by exact id
  orphan : s.stOrphan = true → t.stOrphan = true := by exact id
  uncorr : s.stUncorr = true → t.stUncorr = true := by exact id

theorem StickyKept.bit {s t : State} (h : StickyKept s t) {bit : State → Bool} {k : Nat}
    (hbit : (bit, k) ∈ stickyTable) : bit s = true → bit t = true := by
  obtain ⟨rfl, -⟩ | ⟨rfl, -⟩ | ⟨rfl, -⟩ | ⟨rfl, -⟩ | ⟨rfl, -⟩ := mem_stickyTable hbit
  · exact h.errIllegal
  · exact h.errBusy
  · exact h.errArg
  · exact h.orphan
  · exact h.uncorr

/-- A STATUS write clears a sticky bit only by a 1 to it (70_reset_and_hazards.md R335). -/
theorem writeStatus_clears {bit : State → Bool} {k : Nat} (hbit : (bit, k) ∈ stickyTable) {v : Word} {s : State}
    (hs : bit s = true) (ht : bit (writeStatus v s) = false) : v.getLsbD k = true := by
  obtain ⟨rfl, rfl⟩ | ⟨rfl, rfl⟩ | ⟨rfl, rfl⟩ | ⟨rfl, rfl⟩ | ⟨rfl, rfl⟩ := mem_stickyTable hbit <;>
    simpa [hs] using ht

/-- Both resets clear every sticky bit (70_reset_and_hazards.md R320, R321). -/
theorem rstCycle_clears {bit : State → Bool} {k : Nat} (hbit : (bit, k) ∈ stickyTable) (att : Option HostAccess)
    (s : State) : bit (rstCycle att s) = false := by
  obtain e | ⟨a, -, e⟩ := rstCycle_cases att s <;> rw [e] <;>
    obtain ⟨rfl, -⟩ | ⟨rfl, -⟩ | ⟨rfl, -⟩ | ⟨rfl, -⟩ | ⟨rfl, -⟩ := mem_stickyTable hbit <;> rfl

/-- The codeword step may set ORPHAN and UNCORR and clears neither (43_message_assembler.md R240, R242). -/
theorem codewordStep_sticky (raw : Word) (k : BitVec 4) (s : State) : StickyKept s (codewordStep raw k s) := by
  have hc : StickyKept s (countCodeword (correctWord raw) s) := { uncorr := fun h => by simp [h] }
  obtain ⟨-, e⟩ | ⟨-, e⟩ | ⟨-, -, e⟩ | ⟨-, -, e⟩ := codewordStep_cases raw k s <;> rw [e]
  · unfold onAddress
    rw [closeIfOpen_frame]
    exact { uncorr := hc.uncorr }
  · unfold onIdle
    rw [closeIfOpen_frame]
    exact { uncorr := hc.uncorr }
  · exact { uncorr := hc.uncorr }
  · exact { orphan := fun _ => rfl, uncorr := hc.uncorr }

/-- The engine leaves the host's three error bits alone and clears neither of its own two (10_state.md R57). -/
theorem EngineMove.sticky {s t : State} (m : EngineMove s t) :
    t.errIllegal = s.errIllegal ∧ t.errBusy = s.errBusy ∧ t.errArg = s.errArg ∧ StickyKept s t := by
  cases m with
  | hold | scanEnd | scanNext | scanBatch | scanIncomplete => exact ⟨rfl, rfl, rfl, {}⟩
  | start | flush | aend =>
    rw [closeIfOpen_frame]
    exact ⟨rfl, rfl, rfl, {}⟩
  | batch raw =>
    have hc := codewordStep_sticky raw s.cwK s
    rw [codewordStep_frame] at hc ⊢
    obtain ⟨-, e⟩ | ⟨-, e⟩ := advanceBatch_cases _ <;> rw [e] <;>
      exact ⟨rfl, rfl, rfl, { orphan := hc.orphan, uncorr := hc.uncorr }⟩
  | asm =>
    have hc := codewordStep_sticky s.jobW s.jobI s
    rw [codewordStep_frame] at hc ⊢
    exact ⟨rfl, rfl, rfl, { orphan := hc.orphan, uncorr := hc.uncorr }⟩

/-- A write that clears a sticky bit is SRESET or a STATUS write. -/
theorem WriteMove.sticky {r : Reg} {v : Word} {s t : State} (m : WriteMove r v s t) :
    (r = .cmd ∧ (opOf v).toNat = 0x1F) ∨ (r = .status ∧ t = writeStatus v s) ∨ StickyKept s t := by
  cases m with
  | reset hr hop => exact .inl ⟨hr, hop⟩
  | status hr => exact .inr (.inl ⟨hr, rfl⟩)
  | refused => exact .inr (.inr { errBusy := fun _ => rfl })
  | illegal => exact .inr (.inr { errIllegal := fun _ => rfl })
  | illegalWidth => exact .inr (.inr { errArg := fun _ => rfl })
  | _ => exact .inr (.inr {})

/-- How a write clears one sticky bit. -/
theorem WriteMove.clears {r : Reg} {v : Word} {s t : State} (m : WriteMove r v s t) {bit : State → Bool} {k : Nat}
    (hbit : (bit, k) ∈ stickyTable) (hs : bit s = true) (ht : bit t = false) :
    (r = .cmd ∧ (opOf v).toNat = 0x1F) ∨ (r = .status ∧ v.getLsbD k = true) := by
  obtain h | ⟨hr, rfl⟩ | h := m.sticky
  · exact .inl h
  · exact .inr ⟨hr, writeStatus_clears hbit hs ht⟩
  · exact nomatch (h.bit hbit hs).symm.trans ht

/-- A write never sets ORPHAN or UNCORR. -/
theorem WriteMove.sets_no_engine_bit {r : Reg} {v : Word} {s t : State} (m : WriteMove r v s t) :
    (t.stOrphan = true → s.stOrphan = true) ∧ (t.stUncorr = true → s.stUncorr = true) := by
  cases m with
  | reset => exact ⟨nofun, nofun⟩
  | status => exact ⟨fun h => (Bool.and_eq_true_iff.mp h).1, fun h => (Bool.and_eq_true_iff.mp h).1⟩
  | _ => exact ⟨id, id⟩

/-- ERR_ILLEGAL is set by an accepted write of an illegal OP (30_encoding.md R114). -/
theorem WriteMove.sets_errIllegal {r : Reg} {v : Word} {s t : State} (m : WriteMove r v s t)
    (hs : s.errIllegal = false) (ht : t.errIllegal = true) :
    r = .cmd ∧ busy s = false ∧ ∃ e, decode v = .error e := by
  cases m with
  | illegal e hr hb hd => exact ⟨hr, hb, e, hd⟩
  | reset => exact nomatch ht
  | status => simp [hs] at ht
  | _ => exact nomatch hs.symm.trans ht

/-- ERR_BUSY is set by a refused write (70_reset_and_hazards.md R330). -/
theorem WriteMove.sets_errBusy {r : Reg} {v : Word} {s t : State} (m : WriteMove r v s t)
    (hs : s.errBusy = false) (ht : t.errBusy = true) : busy s = true ∧ r ∈ [.cmd, .len, .bufdata] := by
  cases m with
  | refused hb hr => exact ⟨hb, hr⟩
  | reset => exact nomatch ht
  | status => simp [hs] at ht
  | _ => exact nomatch hs.symm.trans ht

/-- ERR_ARG is set by an accepted PACKM or PACKL of an illegal group width (40_bitpacking.md R145). -/
theorem WriteMove.sets_errArg {r : Reg} {v : Word} {s t : State} (m : WriteMove r v s t)
    (hs : s.errArg = false) (ht : t.errArg = true) :
    r = .cmd ∧ busy s = false ∧ (opOf v).toNat ∈ [0x08, 0x09] ∧ ¬ LegalWidth (arg1Of v) := by
  cases m with
  | illegalWidth hr hb hop hg => exact ⟨hr, hb, hop, hg⟩
  | reset => exact nomatch ht
  | status => simp [hs] at ht
  | _ => exact nomatch hs.symm.trans ht

/-- The addresses whose writes are refused while BUSY (70_reset_and_hazards.md R330). -/
theorem mem_refused_iff {a : BitVec 7} : regAt a ∈ [.cmd, .len, .bufdata] ↔ a.toNat / 4 ∈ [1, 6, 8] := by
  have hlen : regAt a = .len ↔ a.toNat / 4 = 6 := regAt_eq_iff (by decide) a
  have hdata : regAt a = .bufdata ↔ a.toNat / 4 = 8 := regAt_eq_iff (by decide) a
  simp only [List.mem_cons, List.not_mem_nil, or_false, regAt_eq_cmd, hlen, hdata]

theorem ReadMove.sticky {s t : State} (m : ReadMove s t) :
    t.errIllegal = s.errIllegal ∧ t.errBusy = s.errBusy ∧ t.errArg = s.errArg ∧ t.stOrphan = s.stOrphan ∧
    t.stUncorr = s.stUncorr := by
  cases m <;> exact ⟨rfl, rfl, rfl, rfl, rfl⟩

theorem ReadMove.stickyKept {s t : State} (m : ReadMove s t) : StickyKept s t := by
  cases m <;> exact {}

/-- A step that clears a sticky bit is a STATUS write of 1 to it, SRESET or a cycle of rst. -/
theorem StepMove.clears {s t : State} (m : StepMove s t) {bit : State → Bool} {k : Nat}
    (hbit : (bit, k) ∈ stickyTable) (hs : bit s = true) (ht : bit t = false) :
    (∃ (a : BitVec 7) (v : Word) (rest : List PortEvent), s.agenda = .host (.write a v) :: rest ∧
      ((a.toNat / 4 = 2 ∧ v.getLsbD k = true) ∨ (a.toNat / 4 = 1 ∧ (opOf v).toNat = 0x1F))) ∨
    (∃ (att : Option HostAccess) (rest : List PortEvent), s.agenda = .rst att :: rest) := by
  have htake : bit (takeEvent s) = true := StickyKept.bit {} hbit hs
  cases m with
  | engine _ m =>
    obtain ⟨-, -, -, h⟩ := m.sticky
    exact nomatch (h.bit hbit htake).symm.trans ht
  | @write a v rest _ ha m =>
    obtain ⟨hr, hop⟩ | ⟨hr, hv⟩ := m.clears hbit htake ht
    · exact .inl ⟨a, v, rest, ha, .inr ⟨regAt_eq_cmd.mp hr, hop⟩⟩
    · exact .inl ⟨a, v, rest, ha, .inl ⟨regAt_eq_status.mp hr, hv⟩⟩
  | @read es u m =>
    have hu : StickyKept u (schedule es u) := {}
    exact nomatch (hu.bit hbit (m.stickyKept.bit hbit htake)).symm.trans ht
  | @rst att rest ha => exact .inr ⟨att, rest, ha⟩

/-- Settles O59: its clauses about the engine, a write, a read and a step, each from the moves of that agent. -/
theorem stickyBitsHaveTheirOwnWriters : Obligations.StickyBitsHaveTheirOwnWriters := by
  refine ⟨fun s t h => ?_, fun a v s t h => ?_, fun a s t h => (ReadMove.of_readReg h).sticky, fun bit k hbit => ?_⟩
  · obtain ⟨hi, hb, ha, hk⟩ := (EngineMove.of_engineStep h).sticky
    exact ⟨hi, hb, ha, hk.orphan, hk.uncorr⟩
  · have m : WriteMove (regAt a) v s t := .of_writeReg h
    have hclear (hn : ¬ (a.toNat / 4 = 1 ∧ (opOf v).toNat = 0x1F)) {bit : State → Bool} {k : Nat}
        (hbit : (bit, k) ∈ stickyTable) (hs : bit s = true) (ht : bit t = false) :
        a.toNat / 4 = 2 ∧ v.getLsbD k = true := by
      obtain ⟨hr, hop⟩ | ⟨hr, hv⟩ := m.clears hbit hs ht
      · exact absurd ⟨regAt_eq_cmd.mp hr, hop⟩ hn
      · exact ⟨regAt_eq_status.mp hr, hv⟩
    obtain ⟨ho, hu⟩ := m.sets_no_engine_bit
    refine ⟨ho, hu, fun hn => ?_, fun hs ht => ?_, fun hs ht => ?_, fun hs ht => ?_⟩
    · refine ⟨hclear hn ?_, hclear hn ?_, hclear hn ?_, hclear hn ?_, hclear hn ?_⟩ <;> simp [stickyTable]
    · obtain ⟨hr, hb, he⟩ := m.sets_errIllegal hs ht
      exact ⟨regAt_eq_cmd.mp hr, hb, he⟩
    · obtain ⟨hb, hr⟩ := m.sets_errBusy hs ht
      exact ⟨hb, mem_refused_iff.mp hr⟩
    · obtain ⟨hr, hb, hop, hg⟩ := m.sets_errArg hs ht
      exact ⟨regAt_eq_cmd.mp hr, hb, hop, hg⟩
  · refine ⟨fun s t h => (StepMove.of_step h).clears hbit, rstCycle_clears hbit, fun s t h => ?_⟩
    cases h
    exact rstCycle_clears hbit none s

end Sys2Proof.Machine
end

section
/-! The input bit buffer and the FIFO at the host port (20_memory.md R84 to R91), what an engine step leaves unchanged
(R88, R90), and where a step stops at an unwritten word (R85, R86). -/

namespace Sys2Proof.Machine

/-! ### Buffer bits and windows -/

/-- A bit of a written word, counted from the top (20_memory.md R84). -/
theorem bufBit_of_readWord {m : List Host.Cell} {b : Nat} {w : Word} (h : readWord m (b / 32) = some w) :
    bufBit m b = some (w.getLsbD (31 - b % 32)) := by
  rw [bufBit, h, Option.map_some]

theorem bufBit_isSome (m : List Host.Cell) (b : Nat) : (bufBit m b).isSome = (readWord m (b / 32)).isSome := by
  rw [bufBit, Option.isSome_map]

/-- Of two adjacent words shifted together at the offset k, the bits before the seam are the first word's. -/
theorem getLsbD_seam_left {w0 w1 : Word} {k i : Nat} (hi : i + k < 32) :
    ((w0 <<< k) ||| (w1 >>> (32 - k))).getLsbD (31 - i) = w0.getLsbD (31 - (k + i)) := by
  have hidx : 31 - i - k = 31 - (k + i) := by omega
  have hw1 : w1.getLsbD (32 - k + (31 - i)) = false := BitVec.getLsbD_of_ge w1 _ (by omega)
  have hlt : 31 - i < 32 := by omega
  have hge : ¬ 31 - i < k := by omega
  simp only [BitVec.getLsbD_or, BitVec.getLsbD_shiftLeft, BitVec.getLsbD_ushiftRight, hw1, hidx, hlt, hge, decide_true,
    decide_false, Bool.not_false, Bool.true_and, Bool.or_false]

/-- The bits from the seam on are the second word's. -/
theorem getLsbD_seam_right {w0 w1 : Word} {k i : Nat} (hi : 32 ≤ k + i) (hlt : i < 32) (hk : k < 32) :
    ((w0 <<< k) ||| (w1 >>> (32 - k))).getLsbD (31 - i) = w1.getLsbD (31 - (k + i - 32)) := by
  have hidx : 32 - k + (31 - i) = 31 - (k + i - 32) := by omega
  have hw0 : 31 - i < k := by omega
  simp [hidx, hw0]

/-- A window that answers consists of the buffer bits from its start on (20_memory.md R84). -/
theorem bufBit_of_window {m : List Host.Cell} {b : Nat} {w : Word} (h : window m b = some w) {i : Nat} (hi : i < 32) :
    bufBit m (b + i) = some (w.getLsbD (31 - i)) := by
  obtain ⟨h0, hw⟩ | ⟨-, w0, w1, hw0, hw1, rfl⟩ := window_cases h
  · have hdiv : (b + i) / 32 = b / 32 := by omega
    have hmod : (b + i) % 32 = i := by omega
    rw [bufBit_of_readWord (hdiv ▸ hw), hmod]
  · by_cases hseam : i + b % 32 < 32
    · have hdiv : (b + i) / 32 = b / 32 := by omega
      have hmod : (b + i) % 32 = b % 32 + i := by omega
      rw [bufBit_of_readWord (hdiv ▸ hw0), hmod, getLsbD_seam_left hseam]
    · have hdiv : (b + i) / 32 = b / 32 + 1 := by omega
      have hmod : (b + i) % 32 = b % 32 + i - 32 := by omega
      rw [bufBit_of_readWord (hdiv ▸ hw1), hmod, getLsbD_seam_right (by omega) hi (by omega)]

/-- Settles O34: the first and the last of the 32 bits already touch every word the window reads. -/
theorem windowIsThe32BitsFromItsStart : Obligations.WindowIsThe32BitsFromItsStart := by
  refine fun m b => ⟨fun w h i hi => bufBit_of_window h hi, fun h => ?_, fun w h => bufBit_of_readWord h⟩
  have hfirst : (readWord m (b / 32)).isSome := (bufBit_isSome m b).symm.trans (h 0 (by decide))
  have hlast : (readWord m ((b + 31) / 32)).isSome := (bufBit_isSome m _).symm.trans (h 31 (by decide))
  refine window_isSome hfirst fun hb => ?_
  have hdiv : (b + 31) / 32 = b / 32 + 1 := by omega
  exact hdiv ▸ hlast

/-! ### BUFDATA and the FIFO at the port -/

/-- Settles O32: refused by acceptance, or a word write, whose laws are those of the buffer. -/
theorem bufdataWriteStoresAndIncrements : Obligations.BufdataWriteStoresAndIncrements := by
  refine fun s v => ⟨fun hb => congrArg Host.Outcome.next (accept_busy hb _), fun hb => ?_⟩
  refine ⟨_, congrArg Host.Outcome.next (accept_idle hb _), rfl, readWord_writeWord_same _ _ _,
    fun j hj => readWord_writeWord_other _ _ hj, fun a ha => readByte_writeWord_other _ _ ?_⟩
  omega

/-- Settles O33: the two cases of a BUFDATA read. -/
theorem bufdataReadReturnsAndIncrements : Obligations.BufdataReadReturnsAndIncrements := by
  intro s
  have haccess : hostAccess (.read 0x20#7) s = readBufdata s := rfl
  rw [haccess]
  obtain ⟨hn, e⟩ | ⟨u, hu, e⟩ := readBufdata_cases s
  · exact ⟨fun v hv => (nomatch hn.symm.trans hv), fun _ => e⟩
  · refine ⟨fun v hv => ?_, fun hn => (nomatch hu.symm.trans hn)⟩
    cases hu.symm.trans hv
    exact e

theorem readOutHi_nil {s : State} (h : s.fifo = []) : readOutHi s = answer 0#32 s := by
  rw [readOutHi, h]

theorem readOutHi_cons {s : State} {r : Record} {rest : List Record} (h : s.fifo = r :: rest) :
    readOutHi s = answer r.hi s := by
  rw [readOutHi, h]

theorem readOutLo_nil {s : State} (h : s.fifo = []) : readOutLo s = answer 0#32 s := by
  rw [readOutLo, h]

theorem readOutLo_cons {s : State} {r : Record} {rest : List Record} (h : s.fifo = r :: rest) :
    readOutLo s = { s with rdata := r.lo, fifo := rest } := by
  rw [readOutLo, h]
  show ({ s with rdata := r.lo, fifo := s.fifo.tail } : State) = _
  rw [h, List.tail_cons]

/-- Settles O37: both reads on an empty and on a non-empty FIFO. -/
theorem outHiPeeksAndOutLoPops : Obligations.OutHiPeeksAndOutLoPops := fun _ =>
  ⟨fun h => ⟨congrArg Host.Outcome.next (readOutHi_nil h), congrArg Host.Outcome.next (readOutLo_nil h)⟩,
   fun _ _ h => ⟨congrArg Host.Outcome.next (readOutHi_cons h), congrArg Host.Outcome.next (readOutLo_cons h)⟩⟩

/-! ### What a step performs -/

theorem step_of_nil {s : State} (h : s.agenda = []) : step s = engineStep s := by
  rw [step, h]

theorem step_of_cons {s : State} {e : PortEvent} {rest : List PortEvent} (h : s.agenda = e :: rest) :
    step s = portEvent e { s with agenda := rest } := by
  rw [step, h]

/-- A CMD write of a word that decodes runs the command (30_encoding.md R117). -/
theorem writeCmd_of_decode {c : Word} {i : Instr} (h : decode c = .ok i) (s : State) : writeCmd c s = exec i s := by
  rw [writeCmd, h]

/-- Settles O50: the event at the head of the agenda decides, and the addresses 4 to 7 select CMD. -/
theorem stepRunsTheDecodedCommand : Obligations.StepRunsTheDecodedCommand := by
  refine ⟨fun s rest a c i ha hreg hd => ?_, fun _ _ _ ha => step_of_cons ha, fun _ _ ha => step_of_cons ha,
    fun _ _ _ ha => step_of_cons ha, fun _ ha => step_of_nil ha⟩
  calc step s = writeReg (regAt a) c { s with agenda := rest } := step_of_cons ha
    _ = writeCmd c { s with agenda := rest } := by rw [regAt_eq_cmd.mpr hreg]; rfl
    _ = exec i { s with agenda := rest } := writeCmd_of_decode hd _

/-! ### The frame of an engine step -/

theorem advanceBatch_frame (s : State) : advanceBatch s = { s with
    runBatch := (advanceBatch s).runBatch
    statBatch := (advanceBatch s).statBatch
    scanP := (advanceBatch s).scanP
    cwK := (advanceBatch s).cwK
    estate := (advanceBatch s).estate } := by
  obtain ⟨-, e⟩ | ⟨-, e⟩ := advanceBatch_cases s <;> rw [e]

/-- Every field the engine can change: its own registers, the assembler slot, the counters, six STATUS bits and the
FIFO. -/
theorem EngineMove.frame {s t : State} (m : EngineMove s t) : t = { s with
    estate := t.estate, scanP := t.scanP, cwK := t.cwK, runBatch := t.runBatch
    openF := t.openF, slotRW := t.slotRW, slotMV := t.slotMV, slotPcnt := t.slotPcnt
    statBatch := t.statBatch, statCw := t.statCw, statFix := t.statFix, statBad := t.statBad
    statMsg := t.statMsg, statOrph := t.statOrph
    stSync := t.stSync, stDone := t.stDone, stNosync := t.stNosync, stIncomplete := t.stIncomplete
    stOrphan := t.stOrphan, stUncorr := t.stUncorr, fifo := t.fifo } := by
  cases m with
  | hold | scanEnd | scanNext | scanBatch | scanIncomplete => rfl
  | start | flush | aend =>
    rw [closeIfOpen_frame]
    rfl
  | batch raw =>
    rw [advanceBatch_frame, codewordStep_frame]
  | asm =>
    rw [codewordStep_frame]
    rfl

/-- The engine only appends to the FIFO (20_memory.md R90). -/
theorem EngineMove.appends {s t : State} (m : EngineMove s t) : ∃ rs, t.fifo = s.fifo ++ rs := by
  cases m with
  | hold | scanEnd | scanNext | scanBatch => exact ⟨[], (List.append_nil _).symm⟩
  | scanIncomplete => exact ⟨[incompleteRecord s.scanP], rfl⟩
  | start | aend =>
    obtain ⟨rs, e, -, -⟩ := closeIfOpen_pushes .endOfInput s
    exact ⟨rs, e⟩
  | flush =>
    obtain ⟨rs, e, -, -⟩ := closeIfOpen_pushes .endOfInput s
    exact ⟨_, by rw [finishRun_fifo, e, List.append_assoc]⟩
  | batch raw =>
    obtain ⟨rs, e, -, -⟩ := codewordStep_pushes raw s.cwK s
    exact ⟨rs, by rw [advanceBatch_frame]; exact e⟩
  | asm =>
    obtain ⟨rs, e, -, -⟩ := codewordStep_pushes s.jobW s.jobI s
    exact ⟨rs, e⟩

/-- Settles O49: the listed fields are none of those the engine can change, and the FIFO only grows. -/
theorem engineStepFrame : Obligations.EngineStepFrame := by
  intro s t h
  have m : EngineMove s t := .of_engineStep h
  obtain ⟨rs, hrs⟩ := m.appends
  rw [m.frame]
  exact ⟨rfl, rfl, rfl, rfl, rfl, rfl, fun _ => rfl, rfl, rfl, rfl, rfl, rfl, rfl, rfl, rfl, rs, hrs⟩

/-! ### Where a step stops -/

/-- The outcome o is no refusal, and it is a fault for exactly the reasons in P. -/
structure FaultsExactly (o : Host.Outcome State Fault Refusal) (P : Fault → Prop) : Prop where
  not_refused : ∀ r, o ≠ .refused r
  fault_iff : ∀ f, o = .fault f ↔ P f

theorem FaultsExactly.of_next {o : Host.Outcome State Fault Refusal} {t : State} {P : Fault → Prop} (e : o = .next t)
    (h : ∀ f, ¬ P f) : FaultsExactly o P where
  not_refused := fun _ hr => nomatch e.symm.trans hr
  fault_iff := fun f => ⟨fun hf => (nomatch e.symm.trans hf), fun hp => absurd hp (h f)⟩

theorem FaultsExactly.of_fault {o : Host.Outcome State Fault Refusal} {f : Fault} {P : Fault → Prop}
    (e : o = .fault f) (h : ∀ g, P g ↔ f = g) : FaultsExactly o P where
  not_refused := fun _ hr => nomatch e.symm.trans hr
  fault_iff := fun g => by rw [e, Host.Outcome.fault.injEq, h]

/-- The fault of a read of r: BUFDATA at an unwritten word (20_memory.md R85, R86). -/
def ReadFault (r : Reg) (s : State) (f : Fault) : Prop :=
  f = .unwrittenBufdata ∧ r = .bufdata ∧ readWord s.ibb s.bufaddr.toNat = none

/-- The window the engine reads in its turn touches an unwritten word (20_memory.md R85, 42_frame_parser.md R211,
R213). -/
def WindowUnwritten (s : State) : Prop :=
  (s.estate = .scan ∧ window s.ibb s.scanP = none ∧ s.scanP + 32 ≤ s.len.toNat) ∨
  (s.estate = .batch ∧ window s.ibb (codewordPos s) = none)

/-- The fault of the engine's turn. -/
def EngineFault (s : State) (f : Fault) : Prop := f = .unwrittenWindow ∧ WindowUnwritten s

/-- The fault of an event. -/
def EventFault : PortEvent → State → Fault → Prop
  | .host (.read a), s => ReadFault (regAt a) s
  | .poll a _ _, s => ReadFault (regAt a) s
  | .engine, s => EngineFault s
  | .host (.write _ _), _ | .rst _, _ | .drain, _ | .drainUntilDone, _ => fun _ => False

/-- The fault of a step (20_memory.md R81; log 1). -/
def StepFault (s : State) : Fault → Prop :=
  match s.agenda with
  | [] => EngineFault s
  | e :: _ => EventFault e s

theorem readReg_faults (r : Reg) (s : State) : FaultsExactly (readReg r s) (ReadFault r s) := by
  by_cases hr : r = .bufdata
  · subst hr
    obtain ⟨hn, e⟩ | ⟨v, hv, e⟩ := readBufdata_cases s
    · exact .of_fault e fun g => ⟨fun ⟨hg, _⟩ => hg.symm, fun hg => ⟨hg.symm, rfl, hn⟩⟩
    · exact .of_next e fun _ ⟨_, _, hn⟩ => nomatch hv.symm.trans hn
  · have hnext : ∃ t, readReg r s = .next t := by
      obtain ⟨v, e⟩ | ⟨hb, -⟩ | ⟨x, xs, -, -, e⟩ := readReg_cases r s
      · exact ⟨_, e⟩
      · exact absurd hb hr
      · exact ⟨_, e⟩
    obtain ⟨t, e⟩ := hnext
    exact .of_next e fun _ ⟨_, hb, _⟩ => hr hb

theorem pollTurn_faults (a : BitVec 7) (mask v : Word) (s : State) :
    FaultsExactly (pollTurn a mask v s) (ReadFault (regAt a) s) := by
  obtain ⟨not_refused, fault_iff⟩ : FaultsExactly (hostAccess (.read a) s) (ReadFault (regAt a) s) :=
    readReg_faults (regAt a) s
  obtain ⟨t, es, h, e⟩ | ⟨f, h, e⟩ | ⟨r, h, -⟩ := pollTurn_cases a mask v s
  · exact .of_next e fun f hf => nomatch h.symm.trans ((fault_iff f).mpr hf)
  · exact .of_fault e fun g => by rw [← fault_iff, h, Host.Outcome.fault.injEq]
  · exact absurd h (not_refused r)

theorem stepScan_faults {s : State} (he : s.estate = .scan) : FaultsExactly (stepScan s) (EngineFault s) := by
  have hfault : WindowUnwritten s ↔ window s.ibb s.scanP = none ∧ s.scanP + 32 ≤ s.len.toNat := by
    simp [WindowUnwritten, he]
  obtain ⟨hl, e⟩ | ⟨hl, hw, e⟩ | ⟨-, w, hw, -, e⟩ | ⟨-, hw, e⟩ | ⟨-, -, hw, e⟩ := stepScan_cases s
  · exact .of_next e fun _ ⟨_, h⟩ => absurd (hfault.mp h).2 (Nat.not_le_of_lt hl)
  · exact .of_fault e fun g => ⟨fun ⟨hg, _⟩ => hg.symm, fun hg => ⟨hg.symm, hfault.mpr ⟨hw, hl⟩⟩⟩
  all_goals exact .of_next e fun _ ⟨_, h⟩ => nomatch hw.symm.trans (hfault.mp h).1

theorem stepBatch_faults {s : State} (he : s.estate = .batch) : FaultsExactly (stepBatch s) (EngineFault s) := by
  have hfault : WindowUnwritten s ↔ window s.ibb (codewordPos s) = none := by simp [WindowUnwritten, he]
  obtain ⟨hw, e⟩ | ⟨raw, hw, -, e⟩ | ⟨raw, hw, -, e⟩ := stepBatch_cases s
  · exact .of_fault e fun g => ⟨fun ⟨hg, _⟩ => hg.symm, fun hg => ⟨hg.symm, hfault.mpr hw⟩⟩
  all_goals exact .of_next e fun _ ⟨_, h⟩ => nomatch hw.symm.trans (hfault.mp h)

/-- Outside SCAN and BATCH the engine reads no window (20_memory.md R88). -/
theorem not_engineFault {s : State} (hscan : s.estate ≠ .scan) (hbatch : s.estate ≠ .batch) (f : Fault) :
    ¬ EngineFault s f := fun ⟨_, h⟩ => h.elim (fun ⟨he, _⟩ => hscan he) fun ⟨he, _⟩ => hbatch he

theorem engineStep_faults (s : State) : FaultsExactly (engineStep s) (EngineFault s) := by
  obtain ⟨he, e⟩ | ⟨he, e⟩ | ⟨he, e⟩ | ⟨he, e⟩ | ⟨he, e⟩ | ⟨he, e⟩ | ⟨he, e⟩ := engineStep_cases s
  case inr.inr.inl => exact e ▸ stepScan_faults he
  case inr.inr.inr.inl => exact e ▸ stepBatch_faults he
  all_goals exact .of_next e (not_engineFault (by simp [he]) (by simp [he]))

theorem portEvent_faults (e : PortEvent) (s : State) : FaultsExactly (portEvent e s) (EventFault e s) := by
  cases e with
  | host acc =>
    cases acc with
    | read a => exact readReg_faults (regAt a) s
    | write a v =>
      obtain ⟨t, e⟩ := writeReg_next (regAt a) v s
      exact .of_next e fun _ => id
  | engine => exact engineStep_faults s
  | poll a mask v => exact pollTurn_faults a mask v s
  | rst | drain | drainUntilDone => exact .of_next rfl fun _ => id

theorem stepFault_of_nil {s : State} (h : s.agenda = []) : StepFault s = EngineFault s := by
  rw [StepFault, h]

theorem stepFault_of_cons {s : State} {e : PortEvent} {rest : List PortEvent} (h : s.agenda = e :: rest) :
    StepFault s = EventFault e s := by
  rw [StepFault, h]

/-- No fault depends on the rest of the agenda. -/
theorem eventFault_agenda (e : PortEvent) (s : State) (rest : List PortEvent) :
    EventFault e { s with agenda := rest } = EventFault e s := by
  cases e with
  | host acc => cases acc <;> rfl
  | _ => rfl

theorem step_faults (s : State) : FaultsExactly (step s) (StepFault s) := by
  cases ha : s.agenda with
  | nil =>
    rw [step_of_nil ha, stepFault_of_nil ha]
    exact engineStep_faults s
  | cons e rest =>
    rw [step_of_cons ha, stepFault_of_cons ha, ← eventFault_agenda e s rest]
    exact portEvent_faults e _

theorem regAt_eq_bufdata {a : BitVec 7} : regAt a = .bufdata ↔ a.toNat / 4 = 8 := regAt_eq_iff (by decide) a

/-- The BUFDATA fault is that of a read or a poll of BUFDATA at the head of the agenda. -/
theorem stepFault_unwrittenBufdata (s : State) : StepFault s .unwrittenBufdata ↔
    readWord s.ibb s.bufaddr.toNat = none ∧ ∃ (a : BitVec 7) (rest : List PortEvent), a.toNat / 4 = 8 ∧
      (s.agenda = .host (.read a) :: rest ∨ ∃ mask v, s.agenda = .poll a mask v :: rest) := by
  cases ha : s.agenda with
  | nil => simp [stepFault_of_nil ha, EngineFault]
  | cons e rest =>
    rw [stepFault_of_cons ha]
    cases e with
    | host acc => cases acc <;> simp [EventFault, ReadFault, regAt_eq_bufdata, and_comm]
    | poll a mask v => simp [EventFault, ReadFault, regAt_eq_bufdata, and_comm]
    | _ => simp [EventFault, EngineFault]

/-- The window fault is that of the engine's turn. -/
theorem stepFault_unwrittenWindow (s : State) : StepFault s .unwrittenWindow ↔
    (s.agenda = [] ∨ ∃ rest, s.agenda = .engine :: rest) ∧ WindowUnwritten s := by
  cases ha : s.agenda with
  | nil => simp [stepFault_of_nil ha, EngineFault]
  | cons e rest =>
    rw [stepFault_of_cons ha]
    cases e with
    | host acc => cases acc <;> simp [EventFault, ReadFault]
    | _ => simp [EventFault, EngineFault, ReadFault]

/-- Every codeword of a batch in progress ends at or below LEN (42_frame_parser.md R211). -/
theorem Inv.codewordPos_le {s : State} (h : Inv s) (hb : s.estate = .batch) :
    codewordPos s + 32 ≤ s.len.toNat := by
  have hfits : s.scanP + 32 + 512 ≤ s.len.toNat := h.batchFits hb
  have hk : s.cwK.toNat < 16 := s.cwK.isLt
  unfold codewordPos cwBits
  omega

/-- Settles O54: the faults of a step are those of the event it performs, and a batch in progress lies inside LEN. -/
theorem stepFaultsOnlyOnUnwrittenWords : Obligations.StepFaultsOnlyOnUnwrittenWords := by
  intro s hs
  obtain ⟨not_refused, fault_iff⟩ := step_faults s
  refine ⟨not_refused, (fault_iff _).trans (stepFault_unwrittenBufdata s),
    (fault_iff _).trans ((stepFault_unwrittenWindow s).trans (and_congr_right fun _ => or_congr_right ?_))⟩
  exact and_congr_right fun hb => (and_iff_left (hs.codewordPos_le hb)).symm

end Sys2Proof.Machine
end

section
/-! The command word (30_encoding.md R110 to R118): what the decoder reads from its fields, what the encoder and the
assembler write into them, and the branches of a CMD write. -/

namespace Sys2Proof.Machine

/-! ### The decoder -/

/-- The OP values of the opcode map (30_encoding.md R112). -/
def legalOps : List Nat := [0x00, 0x01, 0x02, 0x03, 0x04, 0x05, 0x08, 0x09, 0x0A, 0x10, 0x11, 0x12, 0x1E, 0x1F]

/-- What the decoder can answer: a command for an OP of the map, a rejection for every other one. -/
theorem decode_cases (c : Word) :
    ((opOf c).toNat ∈ legalOps ∧ ∃ i, decode c = .ok i) ∨
    ((opOf c).toNat ∉ legalOps ∧ decode c = .error (.illegalOp (opOf c))) := by
  unfold decode
  split
  case h_15 => exact .inr ⟨by simp_all [legalOps], rfl⟩
  all_goals
    next h => exact .inl ⟨by rw [h]; decide, _, rfl⟩

theorem decode_isOk_of_mem {c : Word} (h : (opOf c).toNat ∈ legalOps) : ∃ i, decode c = .ok i := by
  obtain ⟨-, hi⟩ | ⟨hn, -⟩ := decode_cases c
  · exact hi
  · exact absurd h hn

theorem decode_eq_error_iff {c : Word} : (∃ r, decode c = .error r) ↔ (opOf c).toNat ∉ legalOps := by
  obtain ⟨h, i, e⟩ | ⟨h, e⟩ := decode_cases c <;> simp [h, e]

/-- The undefined OP values as ranges (30_encoding.md R114). -/
theorem not_mem_legalOps_iff (n : Nat) : n ∉ legalOps ↔
    (n = 0x06 ∨ n = 0x07 ∨ (0x0B ≤ n ∧ n ≤ 0x0F) ∨ (0x13 ≤ n ∧ n ≤ 0x1D) ∨ 0x20 ≤ n) := by
  simp only [legalOps, List.mem_cons, List.not_mem_nil, or_false]
  omega

/-- Only OP, ARG1 of PACKM and PACKL, and ARG0[3:0] of ASMCW are read: a word with the OP of i decodes to i when those
fields hold its operand, whatever the others hold (30_encoding.md R111 to R113). -/
theorem decode_of_opOf {c : Word} {i : Instr} (op : (opOf c).toNat = (opcode i).toNat)
    (width : ∀ g, i = .packm g ∨ i = .packl g → arg1Of c = g) (tag : ∀ t, i = .asmcw t → tagOf c = t) :
    decode c = .ok i := by
  rw [decode, op]
  cases i with
  | packm g => rw [width g (.inl rfl)]; rfl
  | packl g => rw [width g (.inr rfl)]; rfl
  | asmcw t => rw [tag t rfl]; rfl
  | _ => rfl

theorem decode_commandWord {i : Instr} {a1 : BitVec 8} {a0 : BitVec 16}
    (width : ∀ g, i = .packm g ∨ i = .packl g → a1 = g) (tag : ∀ t, i = .asmcw t → a0.extractLsb' 0 4 = t) :
    decode (commandWord (opcode i) a1 a0) = .ok i := by
  apply decode_of_opOf
  · rw [opOf_commandWord]
  · rwa [arg1Of_commandWord]
  · rwa [tagOf_commandWord]

/-- The encoder writes each operand into the field the decoder reads it from. -/
theorem decode_encode (i : Instr) : decode (encode i) = .ok i := by
  refine decode_commandWord (fun g h => ?_) (fun t h => ?_)
  · obtain rfl | rfl := h <;> rfl
  · subst h
    exact (BitVec.extractLsb'_setWidth_of_le (by decide)).trans BitVec.extractLsb'_eq_self

/-- Settles O1: the encoder writes the fields the decoder reads. -/
theorem decodeOfEncodeIsTheInstruction : Obligations.DecodeOfEncodeIsTheInstruction := decode_encode

/-- Settles O2: seven of the words are encodings, and the OP of the eighth is none of the map. -/
theorem decodeReadsTheWrittenOutWords : Obligations.DecodeReadsTheWrittenOutWords :=
  ⟨decode_encode .nop, decode_encode .decode, decode_encode (.packm 8#8), decode_encode (.packl 32#8),
    decode_encode .run, decode_encode (.asmcw 15#4), decode_encode .sreset, rfl⟩

/-! ### The encoder and the assembler -/

/-- A command word as the table of 30_encoding.md R118 writes it: each field shifted to its place. -/
theorem commandWord_eq_or (op a1 : BitVec 8) (a0 : BitVec 16) : commandWord op a1 a0 =
    (op.setWidth 32 <<< 24) ||| (a1.setWidth 32 <<< 16) ||| a0.setWidth 32 := by
  refine BitVec.eq_of_getLsbD_eq fun i hi => ?_
  rw [getLsbD_commandWord]
  simp only [BitVec.getLsbD_or, BitVec.getLsbD_shiftLeft, BitVec.getLsbD_setWidth, hi]
  by_cases h16 : i < 16
  · simp [h16, show i < 24 by omega]
  have h0 : a0.getLsbD i = false := BitVec.getLsbD_of_ge _ _ (by omega)
  by_cases h24 : i < 24
  · simp [h16, h24, h0, show i - 16 < 32 by omega]
  have h1 : a1.getLsbD (i - 16) = false := BitVec.getLsbD_of_ge _ _ (by omega)
  simp [h16, h24, h0, h1, show i - 24 < 32 by omega]

/-- A part of ARG0 is that part of the command word. -/
theorem extractLsb'_commandWord {start len : Nat} (h : start + len ≤ 16) (op a1 : BitVec 8) (a0 : BitVec 16) :
    (commandWord op a1 a0).extractLsb' start len = a0.extractLsb' start len := by
  rw [commandWord, BitVec.extractLsb'_append_eq_of_add_le h]

/-- The words of PACKM and PACKL, as the table of 30_encoding.md R118 writes them. -/
theorem encode_width {g : Nat} (h : g ≤ 32) :
    encode (.packm (BitVec.ofNat 8 g)) = 0x08000000#32 ||| (BitVec.ofNat 32 g <<< 16) ∧
    encode (.packl (BitVec.ofNat 8 g)) = 0x09000000#32 ||| (BitVec.ofNat 32 g <<< 16) := by
  have hg : (BitVec.ofNat 8 g).setWidth 32 = BitVec.ofNat 32 g :=
    BitVec.setWidth_ofNat_of_le_of_lt (by decide) (by omega)
  constructor <;> simp [encode, commandWord_eq_or, opcode, arg1Field, arg0Field, hg]

/-- The word of ASMCW, as the table of 30_encoding.md R118 writes it. -/
theorem encode_tag {i : Nat} (h : i ≤ 15) :
    encode (.asmcw (BitVec.ofNat 4 i)) = 0x11000000#32 ||| BitVec.ofNat 32 i := by
  have hi : ((BitVec.ofNat 4 i).setWidth 16).setWidth 32 = BitVec.ofNat 32 i := by
    rw [BitVec.setWidth_ofNat_of_le_of_lt (by decide) (by omega),
      BitVec.setWidth_ofNat_of_le_of_lt (by decide) (by omega)]
  simp only [encode, commandWord_eq_or, opcode, arg1Field, arg0Field, hi]
  simp

/-- The lines of PACKM and PACKL: written for a legal group width, refused for any other number. -/
theorem assembleLine_width (g : Nat) :
    assembleLine "packm" (some g) = (if 1 ≤ g ∧ g ≤ 32 then some (encode (.packm (BitVec.ofNat 8 g))) else none) ∧
    assembleLine "packl" (some g) = (if 1 ≤ g ∧ g ≤ 32 then some (encode (.packl (BitVec.ofNat 8 g))) else none) :=
  ⟨rfl, rfl⟩

/-- The line of ASMCW with a tag: written for one of four bits, refused for any other number. -/
theorem assembleLine_tag (i : Nat) : assembleLine "asmcw" (some i) =
    if i ≤ 15 then some (encode (.asmcw (BitVec.ofNat 4 i))) else none := rfl

/-- Settles O3: a line is the encoding of its command, and the encodings are the words of the table. -/
theorem assemblerWritesTheTableOfMnemonics : Obligations.AssemblerWritesTheTableOfMnemonics := by
  refine ⟨rfl, rfl, rfl, rfl, rfl, rfl, rfl, rfl, rfl, rfl, rfl, rfl, fun g h1 h32 => ?_, fun i hi => ?_,
    fun g hg => ?_, fun i hi => ?_⟩
  · obtain ⟨hm, hl⟩ := assembleLine_width g
    obtain ⟨em, el⟩ := encode_width h32
    rw [hm, hl, if_pos ⟨h1, h32⟩, if_pos ⟨h1, h32⟩, em, el]
    exact ⟨rfl, rfl⟩
  · rw [assembleLine_tag, if_pos hi, encode_tag hi]
  · obtain ⟨hm, hl⟩ := assembleLine_width g
    have hno : ¬ (1 ≤ g ∧ g ≤ 32) := by omega
    exact ⟨hm.trans (if_neg hno), hl.trans (if_neg hno)⟩
  · exact (assembleLine_tag i).trans (if_neg (Nat.not_le.mpr hi))

/-! ### A write of CMD -/

/-- PACKM and PACKL of an illegal group width only raise ERR_ARG (40_bitpacking.md R145). -/
theorem exec_illegalWidth {g : BitVec 8} {s : State} (hb : busy s = false) (hg : ¬ LegalWidth g) :
    exec (.packm g) s = .next { s with errArg := true } ∧ exec (.packl g) s = .next { s with errArg := true } :=
  ⟨congrArg Host.Outcome.next ((accept_idle hb _).trans (withWidth_illegal hg s _)),
   congrArg Host.Outcome.next ((accept_idle hb _).trans (withWidth_illegal hg s _))⟩

/-- While BUSY every command but SRESET only raises ERR_BUSY (30_encoding.md R117). -/
theorem exec_busy {i : Instr} {s : State} (hi : i ≠ .sreset) (hb : busy s = true) :
    exec i s = .next { s with errBusy := true } := by
  cases i
  case sreset => exact absurd rfl hi
  all_goals exact congrArg Host.Outcome.next (accept_busy hb _)

/-- A CMD write of an illegal OP is refused while BUSY and raises ERR_ILLEGAL otherwise (30_encoding.md R114, R117). -/
theorem writeCmd_of_illegal {c : Word} (h : (opOf c).toNat ∉ legalOps) (s : State) :
    writeCmd c s = .next (accept s (raiseCond .errIllegal)) := by
  obtain ⟨r, hr⟩ := decode_eq_error_iff.mpr h
  rw [writeCmd, hr]
  rfl

theorem hostAccess_write_cmd (c : Word) (s : State) : hostAccess (.write 0x04#7 c) s = writeCmd c s := rfl

/-- Settles O4: the decoder reads the operand fields only, and the encoder writes 0 into the others. -/
theorem reservedFieldsAreIgnored : Obligations.ReservedFieldsAreIgnored := by
  have hm (g : BitVec 8) (a0 : BitVec 16) : decode (commandWord 0x08#8 g a0) = .ok (.packm g) :=
    decode_commandWord (i := .packm g) (by simp) (by simp)
  have hl (g : BitVec 8) (a0 : BitVec 16) : decode (commandWord 0x09#8 g a0) = .ok (.packl g) :=
    decode_commandWord (i := .packl g) (by simp) (by simp)
  refine ⟨fun i hpm hpl ht a1 a0 => ?_, hm, hl, fun a1 high tag => ?_, fun g a0 s hb hg => ?_, fun i hpm hpl => ?_,
    fun i ht => ?_, fun t => ?_⟩
  · exact decode_commandWord (fun g h => absurd h (not_or.mpr ⟨hpm g, hpl g⟩)) (fun t h => absurd h (ht t))
  · refine decode_commandWord (i := .asmcw tag) (by simp) (fun t h => ?_)
    cases h
    exact BitVec.extractLsb'_append_eq_right
  · obtain ⟨em, el⟩ := exec_illegalWidth hb hg
    exact ⟨(writeCmd_of_decode (hm g a0) s).trans em, (writeCmd_of_decode (hl g a0) s).trans el⟩
  · rw [encode, arg1Of_commandWord]
    cases i with
    | packm g => exact absurd rfl (hpm g)
    | packl g => exact absurd rfl (hpl g)
    | _ => rfl
  · rw [encode, extractLsb'_commandWord (by decide), BitVec.extractLsb'_eq_self]
    cases i with
    | asmcw t => exact absurd rfl (ht t)
    | _ => rfl
  · rw [encode, extractLsb'_commandWord (by decide)]
    ext j hj
    simp [arg0Field]

/-- Settles O5: the rejected OP values are those outside the map, and a write of one is accepted while BUSY = 0. -/
theorem illegalOpcodesOnlyRaiseErrIllegal : Obligations.IllegalOpcodesOnlyRaiseErrIllegal := by
  refine fun c => ⟨decode_eq_error_iff.trans (not_mem_legalOps_iff _), fun h s hb => ?_⟩
  rw [hostAccess_write_cmd, writeCmd_of_illegal (decode_eq_error_iff.mp h), accept_idle hb]
  rfl

/-- Settles O6: the branches are SRESET, the refusal while BUSY, the illegal OP, the illegal width, and the meaning of
the decoded command. -/
theorem cmdWriteFollowsTheAcceptanceOrder : Obligations.CmdWriteFollowsTheAcceptanceOrder := by
  intro c s
  rw [hostAccess_write_cmd]
  refine ⟨fun h => ?_, fun h hb => ?_, fun h hb => ⟨fun hop => ?_, fun hop hg => ?_, fun hop hg => ?_⟩⟩
  · exact writeCmd_of_decode (decode_of_opOf h (by simp) (by simp)) s
  · obtain ⟨i, hd, e⟩ | ⟨r, hd, e⟩ := writeCmd_cases c s <;> rw [e]
    · exact exec_busy (fun hi => h (by rw [opOf_of_decode hd, hi]; rfl)) hb
    · exact congrArg Host.Outcome.next (accept_busy hb _)
  · rw [writeCmd_of_illegal hop, accept_idle hb]
    rfl
  · obtain ⟨em, el⟩ := exec_illegalWidth hb hg
    simp only [List.mem_cons, List.not_mem_nil, or_false] at hop
    obtain h8 | h9 := hop
    · exact (writeCmd_of_decode (decode_of_opOf h8 (by simp) (by simp)) s).trans em
    · exact (writeCmd_of_decode (decode_of_opOf h9 (by simp) (by simp)) s).trans el
  · obtain ⟨i, hd⟩ := decode_isOk_of_mem (List.mem_append_left [0x1F] hop)
    exact ⟨i, hd, (BitVec.eq_of_toNat_eq (opOf_of_decode hd)).symm, writeCmd_of_decode hd s⟩

end Sys2Proof.Machine
end

section
/-! The computing unit commands and the bit packing commands (40_bitpacking.md): what each writes to RES0 and RES1, as a
function of OPA alone, and the bits of the results of PARITY, PACKM, PACKL and BCD5. -/

namespace Sys2Proof.Machine

/-! ### Results as a function of the operand -/

/-- RES0 and RES1 of a computing unit command of a legal width on the operand w; no other command has results. -/
def unitResults : Instr → Word → Option (Word × Word)
  | .synd, w => some ((syn w).setWidth 32, 0#32)
  | .parity, w => some (parityResult w, 0#32)
  | .correct, w => some ((correctWord w).w2, correctFlags (correctWord w))
  | .classify, w => some ((typeCode (typeOf w)).setWidth 32, 0#32)
  | .decode, w => some ((correctWord w).w2, decodeFlags (correctWord w))
  | .packm g, w => some (BitVec.ofNat 32 (packMsb (seqBits w 0 g.toNat)), 0#32)
  | .packl g, w => some (BitVec.ofNat 32 (packLsb (seqBits w 0 g.toNat)), 0#32)
  | .bcd5, w => some (bcdLow w, bcdHigh w)
  | .nop, _ | .run, _ | .asmcw _, _ | .asmend, _ | .statclr, _ | .sreset, _ => none

/-- An idle block writes the results of a computing unit command and nothing else (40_bitpacking.md R140). -/
theorem exec_of_unitResults {i : Instr} {s : State} {r0 r1 : Word} (hb : busy s = false) (hi : i.WellFormed = true)
    (h : unitResults i s.opa = some (r0, r1)) : exec i s = .next { s with res0 := r0, res1 := r1 } := by
  cases i with
  | packm g =>
    cases h
    exact congrArg Host.Outcome.next ((accept_idle hb _).trans (withWidth_legal (of_decide_eq_true hi) s _))
  | packl g =>
    cases h
    exact congrArg Host.Outcome.next ((accept_idle hb _).trans (withWidth_legal (of_decide_eq_true hi) s _))
  | synd | parity | correct | classify | decode | bcd5 =>
    cases h
    exact congrArg Host.Outcome.next (accept_idle hb _)
  | nop | run | asmcw tag | asmend | statclr | sreset => cases h

/-- Only an illegal group width makes a command ill-formed, and it then only raises ERR_ARG (40_bitpacking.md R145). -/
theorem exec_of_not_wellFormed {i : Instr} {s : State} (hb : busy s = false) (hi : i.WellFormed = false) :
    exec i s = .next { s with errArg := true } := by
  cases i with
  | packm g => exact (exec_illegalWidth hb (of_decide_eq_false hi)).1
  | packl g => exact (exec_illegalWidth hb (of_decide_eq_false hi)).2
  | _ => cases hi

/-- Settles O20: the two results are those of `unitResults`, which reads no state; SRESET has none, so a computing unit
command is refused while BUSY. -/
theorem unitResultsDependOnTheOperandAlone : Obligations.UnitResultsDependOnTheOperandAlone := by
  refine ⟨fun i unit hi w => ?_, fun i hi s hb => exec_of_not_wellFormed hb hi⟩
  have results : ∃ r, unitResults i w = some r := by
    obtain rfl | rfl | rfl | rfl | rfl | rfl | ⟨g, rfl⟩ | ⟨g, rfl⟩ := unit <;> exact ⟨_, rfl⟩
  obtain ⟨⟨r0, r1⟩, h⟩ := results
  have notReset : i ≠ .sreset := by
    rintro rfl
    cases h
  refine ⟨r0, r1, fun s hs => ⟨fun hb => exec_of_unitResults hb hi (hs ▸ h), exec_busy notReset⟩⟩

/-! ### Parity -/

/-- The number of ones among n sequence bits, as a sum. -/
theorem count_true_seqBits (w : Word) (n : Nat) :
    (seqBits w 0 n).count true = ∑ i ∈ Finset.range n, (w.getLsbD (31 - i)).toNat := by
  induction n with
  | zero => rfl
  | succ n ih =>
    have snoc : seqBits w 0 (n + 1) = seqBits w 0 n ++ [w.getLsbD (31 - n)] := by
      simp [seqBits, seqBit, List.range_succ]
    have one (b : Bool) : [b].count true = b.toNat := by cases b <;> rfl
    rw [snoc, List.count_append, ih, one, Finset.sum_range_succ]

/-- A chain of exclusive ors says whether the number of ones is odd. -/
theorem foldl_xor_eq (bits : List Bool) (b : Bool) :
    bits.foldl xor b = decide ((bits.count true + b.toNat) % 2 = 1) := by
  induction bits generalizing b with
  | nil => cases b <;> rfl
  | cons c bits ih =>
    rw [List.foldl_cons, ih, decide_eq_decide]
    cases b <;> cases c <;> simp [Nat.add_assoc]

/-- The 32 sequence bits are all the bits of a word. -/
theorem popcount_eq_sum (w : Word) : popcount w = ∑ i ∈ Finset.range 32, (w.getLsbD i).toNat :=
  (count_true_seqBits w 32).trans (Finset.sum_range_reflect (fun i => (w.getLsbD i).toNat) 32)

/-- The first 31 sequence bits are the bits above W[0]. -/
theorem count_protected_eq_sum (w : Word) :
    (seqBits w 0 31).count true = ∑ i ∈ Finset.range 31, (w.getLsbD (i + 1)).toNat := by
  rw [count_true_seqBits, ← Finset.sum_range_reflect (fun i => (w.getLsbD (i + 1)).toNat)]
  refine Finset.sum_congr rfl fun i hi => ?_
  have hlt : i < 31 := Finset.mem_range.mp hi
  rw [show 31 - 1 - i + 1 = 31 - i by omega]

/-- PExp says that the bits above W[0] sum to an odd number (40_bitpacking.md R141). -/
theorem parityExp_eq (w : Word) :
    parityExp w = decide ((∑ i ∈ Finset.range 31, (w.getLsbD (i + 1)).toNat) % 2 = 1) := by
  rw [parityExp, foldl_xor_eq, count_protected_eq_sum, Bool.toNat_false, Nat.add_zero]

/-- ParityOK says that W[0] is the expected parity bit (40_bitpacking.md R141). -/
theorem parityOk_eq_beq (w : Word) : parityOk w = (w.getLsbD 0 == parityExp w) := by
  rw [parityOk, popcount_eq_sum, Finset.sum_range_succ', parityExp_eq, Bool.eq_iff_iff]
  cases w.getLsbD 0 with
  | false => simp
  | true => simpa using Nat.succ_mod_two_eq_zero_iff

/-- POK is bit 0, PEXP bit 1, and the other bits are 0 (40_bitpacking.md R142). -/
theorem getLsbD_parityResult (w : Word) :
    (parityResult w).getLsbD 0 = parityOk w ∧ (parityResult w).getLsbD 1 = parityExp w ∧
    ∀ j, 2 ≤ j → (parityResult w).getLsbD j = false := by
  unfold parityResult
  simp only [BitVec.getLsbD_append]
  refine ⟨by simp, by simp, fun j hj => ?_⟩
  simp [show ¬ j < 1 by omega, show ¬ j - 1 < 1 by omega]

/-- Settles O9: the parity functions are sums modulo 2, and RES0 holds them bit by bit. -/
theorem parityWritesBothParities : Obligations.ParityWritesBothParities := by
  refine ⟨fun s hb => ?_, fun w => ?_, parityExp_eq, parityOk_eq_beq, fun a1 a0 => ?_⟩
  · exact ⟨_, exec_of_unitResults hb rfl rfl, getLsbD_parityResult s.opa⟩
  · rw [parityOk, popcount_eq_sum]
    rfl
  · exact decode_commandWord (i := .parity) (by simp) (by simp)

/-! ### Packing -/

/-- Bit j of the first n sequence bits packed LSB-first (40_bitpacking.md R146). -/
theorem getLsbD_packLsb_seqBits {n : Nat} (hn : n ≤ 32) (w : Word) (j : Nat) :
    (BitVec.ofNat 32 (packLsb (seqBits w 0 n))).getLsbD j = (decide (j < n) && w.getLsbD (31 - j)) := by
  rw [BitVec.getLsbD_ofNat, packLsb_testBit, getD_seqBits, seqBit, Nat.zero_add]
  by_cases hj : j < n
  · simp [hj, show j < 32 by omega]
  · simp [hj]

/-- Bit j of the first n sequence bits packed MSB-first (40_bitpacking.md R143). -/
theorem getLsbD_packMsb_seqBits {n : Nat} (hn : n ≤ 32) (w : Word) (j : Nat) :
    (BitVec.ofNat 32 (packMsb (seqBits w 0 n))).getLsbD j = (decide (j < n) && w.getLsbD (32 - n + j)) := by
  rw [BitVec.getLsbD_ofNat, packMsb_eq_packLsb_reverse, packLsb_testBit]
  by_cases hj : j < n
  · have place : 31 - (0 + (n - 1 - j)) = 32 - n + j := by omega
    rw [List.getD_reverse _ (by simpa using hj), getD_seqBits, length_seqBits, seqBit, place]
    simp [hj, show j < 32 by omega, show n - 1 - j < n by omega]
  · have out : (seqBits w 0 n).reverse.getD j false = false := List.getD_eq_default _ _ (by simpa using hj)
    rw [out]
    simp [hj]

/-- MSB-first packing keeps the top n bits in order: it is a shift (40_bitpacking.md R143). -/
theorem packMsb_seqBits_eq_shift {n : Nat} (hn : n ≤ 32) (w : Word) :
    BitVec.ofNat 32 (packMsb (seqBits w 0 n)) = w >>> (32 - n) := by
  refine BitVec.eq_of_getLsbD_eq fun j _ => ?_
  rw [getLsbD_packMsb_seqBits hn, BitVec.getLsbD_ushiftRight]
  by_cases hj : j < n
  · simp [hj]
  · simp [hj, BitVec.getLsbD_of_ge w (32 - n + j) (by omega)]

/-- The two packings of a palindrome are the same (40_bitpacking.md R146). -/
theorem packLsb_seqBits_of_palindrome {n : Nat} (hn : n ≤ 32) {w : Word}
    (h : ∀ j, j < n → w.getLsbD (31 - j) = w.getLsbD (32 - n + j)) :
    BitVec.ofNat 32 (packLsb (seqBits w 0 n)) = BitVec.ofNat 32 (packMsb (seqBits w 0 n)) := by
  refine BitVec.eq_of_getLsbD_eq fun j _ => ?_
  rw [getLsbD_packLsb_seqBits hn, getLsbD_packMsb_seqBits hn]
  by_cases hj : j < n
  · rw [h j hj]
  · simp [hj]

section
variable {g : BitVec 8} {s : State}

theorem exec_packm_of_legal (hb : busy s = false) (hg : LegalWidth g) : exec (.packm g) s = .next { s with
    res0 := BitVec.ofNat 32 (packMsb (seqBits s.opa 0 g.toNat)), res1 := 0#32 } :=
  exec_of_unitResults hb (decide_eq_true hg) rfl

theorem exec_packl_of_legal (hb : busy s = false) (hg : LegalWidth g) : exec (.packl g) s = .next { s with
    res0 := BitVec.ofNat 32 (packLsb (seqBits s.opa 0 g.toNat)), res1 := 0#32 } :=
  exec_of_unitResults hb (decide_eq_true hg) rfl

/-- On a palindrome PACKL does what PACKM does (40_bitpacking.md R146). -/
theorem exec_packl_of_palindrome (hb : busy s = false) (hg : LegalWidth g)
    (h : ∀ j, j < g.toNat → s.opa.getLsbD (31 - j) = s.opa.getLsbD (32 - g.toNat + j)) :
    exec (.packl g) s = exec (.packm g) s := by
  rw [exec_packl_of_legal hb hg, exec_packm_of_legal hb hg, packLsb_seqBits_of_palindrome hg.2 h]

end

/-- The widths R145 excludes are the illegal ones. -/
theorem not_legalWidth {g : BitVec 8} (h : g.toNat = 0 ∨ 32 < g.toNat) : ¬ LegalWidth g := by
  rintro ⟨hpos, hle⟩
  omega

/-- Settles O10: an MSB-first packing of the top bits is a shift. -/
theorem packmWritesTheTopBits : Obligations.PackmWritesTheTopBits := by
  refine ⟨fun g s hb => ⟨fun h1 h32 => ?_, fun hg => ?_⟩, fun g a0 => ?_⟩
  · rw [exec_packm_of_legal hb ⟨h1, h32⟩, packMsb_seqBits_eq_shift h32]
  · exact (exec_illegalWidth hb (not_legalWidth hg)).1
  · exact decode_commandWord (i := .packm g) (by simp) (by simp)

/-- Settles O11: an LSB-first packing bit by bit; a single bit is a palindrome. -/
theorem packlWritesTheBitsReversed : Obligations.PacklWritesTheBitsReversed := by
  refine ⟨fun g s hb => ⟨fun h1 h32 => ⟨?_, ?_⟩, fun h1 => ?_, fun hg => ?_⟩, fun g a0 => ?_⟩
  · exact ⟨_, exec_packl_of_legal hb ⟨h1, h32⟩, getLsbD_packLsb_seqBits h32 s.opa⟩
  · exact exec_packl_of_palindrome hb ⟨h1, h32⟩
  · refine exec_packl_of_palindrome hb (by omega) fun j hj => ?_
    rw [show 31 - j = 32 - g.toNat + j by omega]
  · exact (exec_illegalWidth hb (not_legalWidth hg)).2
  · exact decode_commandWord (i := .packl g) (by simp) (by simp)

/-! ### BCD -/

/-- Settles O12: the digits by their formula, the six other characters one by one. -/
theorem bcdCharacterTable : Obligations.BcdCharacterTable := by
  refine ⟨fun d hd => ⟨if_pos hd, ?_⟩, by decide⟩
  have hne : d ≠ 10 := by omega
  simp [bcdEmit, hne]

/-- Digit k is the four bits from OPA[19-4k] down, the first one the least significant (40_bitpacking.md R148). -/
theorem bcdDigit_eq (opa : Word) (k : Nat) : bcdDigit opa k =
    (opa.getLsbD (19 - 4 * k)).toNat + 2 * (opa.getLsbD (18 - 4 * k)).toNat +
      4 * (opa.getLsbD (17 - 4 * k)).toNat + 8 * (opa.getLsbD (16 - 4 * k)).toNat := by
  have four : bcdDigit opa k = packLsb [opa.getLsbD (19 - 4 * k), opa.getLsbD (19 - (4 * k + 1)),
    opa.getLsbD (19 - (4 * k + 2)), opa.getLsbD (19 - (4 * k + 3))] := rfl
  rw [four, show 19 - (4 * k + 1) = 18 - 4 * k by omega, show 19 - (4 * k + 2) = 17 - 4 * k by omega,
    show 19 - (4 * k + 3) = 16 - 4 * k by omega]
  simp only [packLsb_cons, packLsb_nil]
  omega

/-- RES0 of BCD5 holds the characters of digits 0 to 3 from the top byte down (40_bitpacking.md R149). -/
theorem extractLsb'_bcdLow (opa : Word) {k : Nat} (hk : k < 4) :
    (bcdLow opa).extractLsb' (24 - 8 * k) 8 = bcdCharAt opa k := by
  unfold bcdLow
  interval_cases k
  · repeat rw [BitVec.extractLsb'_append_eq_of_le (by decide)]
    exact BitVec.extractLsb'_eq_self
  all_goals
    repeat rw [BitVec.extractLsb'_append_eq_of_le (by decide)]
    exact BitVec.extractLsb'_append_eq_right

/-- RES1 of BCD5: the character of digit 4, then the emit bits, then 0 (40_bitpacking.md R149). -/
theorem bcdHigh_fields (opa : Word) :
    (bcdHigh opa).extractLsb' 0 8 = bcdCharAt opa 4 ∧
    (∀ k, k < 5 → (bcdHigh opa).getLsbD (8 + k) = bcdEmit (bcdDigit opa k)) ∧
    (bcdHigh opa).extractLsb' 13 19 = 0#19 := by
  unfold bcdHigh
  refine ⟨BitVec.extractLsb'_append_eq_right, fun k hk => ?_, ?_⟩
  · simp only [BitVec.getLsbD_append]
    interval_cases k <;> simp [bcdEmitAt]
  · repeat rw [BitVec.extractLsb'_append_eq_of_le (by decide)]
    exact BitVec.extractLsb'_eq_self

/-- Settles O13: the fields of the two result words, each of the digit its four bits make. -/
theorem bcd5WritesCharactersAndEmitBits : Obligations.Bcd5WritesCharactersAndEmitBits := by
  refine ⟨fun a1 a0 => decode_commandWord (i := .bcd5) (by simp) (by simp), fun s hb => ?_⟩
  obtain ⟨char4, emit, zero⟩ := bcdHigh_fields s.opa
  refine ⟨_, _, exec_of_unitResults hb rfl rfl, fun k hk => ?_, ?_, fun k hk => ?_, zero⟩
  · rw [extractLsb'_bcdLow s.opa hk, bcdCharAt, bcdDigit_eq]
  · rw [char4, bcdCharAt, bcdDigit_eq]
  · rw [emit k hk, bcdDigit_eq]

end Sys2Proof.Machine
end

section
/-! The syndrome (41_error_correction.md R170 to R173): the serial divider is linear, does not see W[0], and computes
the remainder of a polynomial modulo G; and the overall parity is linear as well. -/

namespace Sys2Proof.Machine

/-! ### Linearity -/

/-- A fold over sequence bits whose step is additive is additive in the word. -/
theorem foldl_seqBits_xor {β : Type} {step : β → Bool → β} {add : β → β → β}
    (additive : ∀ r r' b b', step (add r r') (b ^^ b') = add (step r b) (step r' b')) (v w : Word) (j n : Nat)
    (r r' : β) : (seqBits (v ^^^ w) j n).foldl step (add r r') =
      add ((seqBits v j n).foldl step r) ((seqBits w j n).foldl step r') := by
  simp only [seqBits, seqBit, BitVec.getLsbD_xor]
  induction List.range n generalizing r r' with
  | nil => rfl
  | cons i is ih =>
    simp only [List.map_cons, List.foldl_cons]
    rw [additive, ih]

/-- A step of the divider as a sum: the shift, the new coefficient, and G when x^9 is shifted up. -/
theorem synStep_eq_xor (r : BitVec 11) (b : Bool) :
    synStep r b = (r <<< 1) ^^^ (BitVec.ofBool b).setWidth 11 ^^^ (if r.getLsbD 9 then generator else 0#11) := by
  have shiftIn : (r <<< 1) ||| (BitVec.ofBool b).setWidth 11 = (r <<< 1) ^^^ (BitVec.ofBool b).setWidth 11 := by
    refine BitVec.eq_of_getLsbD_eq fun i hi => ?_
    cases i <;> simp [hi]
  have top : ((r <<< 1) ^^^ (BitVec.ofBool b).setWidth 11).getLsbD 10 = r.getLsbD 9 := by simp
  unfold synStep
  simp only [shiftIn, top]
  split <;> simp

theorem synStep_xor (r r' : BitVec 11) (b b' : Bool) :
    synStep (r ^^^ r') (b ^^ b') = synStep r b ^^^ synStep r' b' := by
  have coefficient : (BitVec.ofBool (b ^^ b')).setWidth 11 =
      (BitVec.ofBool b).setWidth 11 ^^^ (BitVec.ofBool b').setWidth 11 := by cases b <;> cases b' <;> rfl
  have reduction : (if (r ^^^ r').getLsbD 9 then generator else 0#11) =
      (if r.getLsbD 9 then generator else 0#11) ^^^ (if r'.getLsbD 9 then generator else 0#11) := by
    rw [BitVec.getLsbD_xor]
    cases r.getLsbD 9 <;> cases r'.getLsbD 9 <;> rfl
  rw [synStep_eq_xor, synStep_eq_xor, synStep_eq_xor, BitVec.shiftLeft_xor_distrib, coefficient, reduction]
  ac_rfl

/-- Syn is linear (41_error_correction.md R172). -/
theorem syn_xor (v w : Word) : syn (v ^^^ w) = syn v ^^^ syn w := by
  have fold : synFold (seqBits (v ^^^ w) 0 31) = synFold (seqBits v 0 31) ^^^ synFold (seqBits w 0 31) :=
    foldl_seqBits_xor synStep_xor v w 0 31 0#11 0#11
  rw [syn, fold, BitVec.setWidth_xor]
  rfl

@[simp] theorem syn_zero : syn 0#32 = 0#10 := by decide +kernel

@[simp] theorem syn_parityMask : syn 1#32 = 0#10 := by decide +kernel

/-- W[0] does not enter Syn (41_error_correction.md R171). -/
theorem syn_xor_parityMask (w : Word) : syn (w ^^^ 1#32) = syn w := by simp [syn_xor]

/-- A flip gives syndrome 0 exactly when it has the syndrome of the word. -/
theorem syn_xor_eq_zero {v w : Word} : syn (v ^^^ w) = 0#10 ↔ syn v = syn w := by
  rw [syn_xor, BitVec.xor_eq_zero_iff]

/-! ### The table -/

/-- SynTab (41_error_correction.md R172). -/
def synTable : List Nat :=
  [0x3B4, 0x1DA, 0x0ED, 0x3C2, 0x1E1, 0x344, 0x1A2, 0x0D1, 0x3DC, 0x1EE, 0x0F7, 0x3CF, 0x253, 0x29D, 0x2FA,
    0x17D, 0x30A, 0x185, 0x376, 0x1BB, 0x369, 0x200, 0x100, 0x080, 0x040, 0x020, 0x010, 0x008, 0x004, 0x002,
    0x001]

theorem map_syn_seqMask : (List.range 31).map (fun j => (syn (seqMask j)).toNat) = synTable := by decide +kernel

theorem syn_seqMask_toNat {j : Nat} (hj : j < 31) : (syn (seqMask j)).toNat = synTable.getD j 0 := by
  simp [← map_syn_seqMask, hj]

/-- The word put together from the first n sequence bits of w, as the sum of their e(j). -/
def sumOfMasks (w : Word) (n : Nat) : Word :=
  (List.range n).foldl (fun acc j => if w.getLsbD (31 - j) then acc ^^^ seqMask j else acc) 0#32

theorem sumOfMasks_succ (w : Word) (n : Nat) :
    sumOfMasks w (n + 1) = sumOfMasks w n ^^^ if w.getLsbD (31 - n) then seqMask n else 0#32 := by
  by_cases h : w.getLsbD (31 - n) <;> simp [sumOfMasks, List.range_succ, h]

/-- The first n sequence bits of the sum are those of the word, the others are 0. -/
theorem getLsbD_sumOfMasks {n : Nat} (hn : n ≤ 32) (w : Word) {i : Nat} (hi : i < 32) :
    (sumOfMasks w n).getLsbD i = (decide (31 - i < n) && w.getLsbD i) := by
  induction n with
  | zero => simp [sumOfMasks]
  | succ n ih =>
    have mask : (if w.getLsbD (31 - n) then seqMask n else 0#32).getLsbD i =
        (w.getLsbD (31 - n) && decide (i = 31 - n)) := by
      cases w.getLsbD (31 - n) <;> simp [seqMask_getLsbD (show n < 32 by omega)]
    rw [sumOfMasks_succ, BitVec.getLsbD_xor, ih (by omega), mask]
    by_cases new : i = 31 - n
    · subst new
      simp [show 31 - (31 - n) = n by omega]
    · simp [new, show 31 - i < n ↔ 31 - i < n + 1 by omega]

/-- The protected bits of a word are the sum of their e(j), and no other bit enters Syn. -/
theorem syn_sumOfMasks (w : Word) : syn (sumOfMasks w 31) = syn w := by
  have same : seqBits (sumOfMasks w 31) 0 31 = seqBits w 0 31 := by
    refine List.map_congr_left fun j hj => ?_
    have hj31 : j < 31 := List.mem_range.mp hj
    rw [seqBit, getLsbD_sumOfMasks (by decide) w (by omega)]
    simp [seqBit, show 31 - (31 - j) < 31 by omega]
  rw [syn, same, syn]

/-- Settles O26: Syn carries the sum of the e(j) over to the sum of the table's entries. -/
theorem syndromeIsLinear : Obligations.SyndromeIsLinear := by
  refine ⟨syn_xor, fun w => ?_, map_syn_seqMask⟩
  rw [← syn_sumOfMasks, sumOfMasks, ← syn_zero]
  refine (List.foldl_hom syn fun acc j => ?_).symm
  rw [apply_ite syn, syn_xor]

/-- Settles O8: the command on an idle block, and Syn on words that differ in W[0] or are written out. -/
theorem syndWritesTheSyndrome : Obligations.SyndWritesTheSyndrome := by
  refine ⟨fun s hb => exec_of_unitResults hb rfl rfl, fun w => (syn_xor_parityMask w).symm, syn_zero, ?_, ?_,
    fun a1 a0 => ?_⟩
  · decide +kernel
  · decide +kernel
  · exact decode_commandWord (i := .synd) (by simp) (by simp)

/-! ### The remainder modulo G -/

open Polynomial

/-- The polynomial over GF(2) whose coefficient of x^k is the bit k, for k below n. -/
noncomputable def bitPoly (n : Nat) (bit : Nat → Bool) : (ZMod 2)[X] :=
  ∑ k ∈ Finset.range n, if bit k then X ^ k else 0

/-- G as a polynomial (41_error_correction.md R170). -/
noncomputable def generatorPoly : (ZMod 2)[X] := X ^ 10 + X ^ 9 + X ^ 8 + X ^ 6 + X ^ 5 + X ^ 3 + 1

theorem bitPoly_xor (n : Nat) (f g : Nat → Bool) : bitPoly n (fun k => f k ^^ g k) = bitPoly n f + bitPoly n g := by
  rw [bitPoly, bitPoly, bitPoly, ← Finset.sum_add_distrib]
  refine Finset.sum_congr rfl fun k _ => ?_
  cases f k <;> cases g k <;> simp [CharTwo.add_self_eq_zero]

/-- Horner's rule, from the highest coefficient down. -/
theorem bitPoly_succ (n : Nat) (f : Nat → Bool) :
    bitPoly (n + 1) f = X * bitPoly n (fun k => f (k + 1)) + if f 0 then 1 else 0 := by
  rw [bitPoly, Finset.sum_range_succ', bitPoly, Finset.mul_sum]
  simp [pow_succ']

theorem bitPoly_congr {n : Nat} {f g : Nat → Bool} (h : ∀ k < n, f k = g k) : bitPoly n f = bitPoly n g :=
  Finset.sum_congr rfl fun k hk => by rw [h k (Finset.mem_range.mp hk)]

theorem degree_bitPoly_lt (n : Nat) (f : Nat → Bool) : (bitPoly n f).degree < n := by
  refine mem_degreeLT.mp (Submodule.sum_mem _ fun k hk => mem_degreeLT.mpr ?_)
  split
  · rw [degree_X_pow]
    exact_mod_cast Finset.mem_range.mp hk
  · simp

theorem degree_generatorPoly : generatorPoly.degree = 10 := by
  unfold generatorPoly
  compute_degree!

theorem monic_generatorPoly : generatorPoly.Monic := by
  unfold generatorPoly
  monicity!

theorem bitPoly_generator : bitPoly 11 generator.getLsbD = generatorPoly := by
  simp [bitPoly, Finset.sum_range_succ, generator, generatorPoly]
  ring

/-- The reduced working value of the divider has no coefficient of x^10. -/
theorem synStep_top (r : BitVec 11) (b : Bool) : (synStep r b).getLsbD 10 = false := by
  rw [synStep_eq_xor]
  have shift : (r <<< 1).getLsbD 10 = r.getLsbD 9 := by simp
  simp only [BitVec.getLsbD_xor, shift]
  cases r.getLsbD 9 <;> simp [generator]

/-- One step of the divider multiplies by x, adds the new coefficient, and takes G away at most once. -/
theorem bitPoly_synStep (r : BitVec 11) (b : Bool) : bitPoly 10 (synStep r b).getLsbD =
    X * bitPoly 10 r.getLsbD + (if b then 1 else 0) + (if r.getLsbD 9 then generatorPoly else 0) := by
  have widen : bitPoly 11 (synStep r b).getLsbD = bitPoly 10 (synStep r b).getLsbD := by
    rw [bitPoly, Finset.sum_range_succ, synStep_top]
    exact add_zero _
  have shift : bitPoly 11 (r <<< 1).getLsbD = X * bitPoly 10 r.getLsbD := by
    rw [bitPoly_succ, bitPoly_congr (g := r.getLsbD) fun k hk => by simp; omega]
    simp
  have coefficient : bitPoly 11 ((BitVec.ofBool b).setWidth 11).getLsbD = if b then 1 else 0 := by
    rw [bitPoly_succ, bitPoly_congr (g := fun _ => false) fun k hk => by simp]
    simp [bitPoly]
  have reduction : bitPoly 11 (if r.getLsbD 9 then generator else 0#11).getLsbD =
      if r.getLsbD 9 then generatorPoly else 0 := by
    cases r.getLsbD 9
    · simp [bitPoly]
    · exact bitPoly_generator
  rw [← widen, ← shift, ← coefficient, ← reduction, ← bitPoly_xor, ← bitPoly_xor, synStep_eq_xor]
  exact bitPoly_congr fun k _ => by simp only [BitVec.getLsbD_xor]

/-- The divider over the first n sequence bits keeps their polynomial up to a multiple of G. -/
theorem bitPoly_synFold (w : Word) (n : Nat) : ∃ q,
    bitPoly 10 (synFold (seqBits w 0 n)).getLsbD + generatorPoly * q = bitPoly n (fun k => seqBit w (n - (k + 1))) := by
  induction n with
  | zero => exact ⟨0, by simp [seqBits, synFold, bitPoly]⟩
  | succ n ih =>
    obtain ⟨q, hq⟩ := ih
    have snoc : synFold (seqBits w 0 (n + 1)) = synStep (synFold (seqBits w 0 n)) (seqBit w n) := by
      simp [synFold, seqBits, List.range_succ]
    have horner : bitPoly (n + 1) (fun k => seqBit w (n + 1 - (k + 1))) =
        X * bitPoly n (fun k => seqBit w (n - (k + 1))) + if seqBit w n then 1 else 0 := by
      rw [bitPoly_succ]
      simp
    refine ⟨X * q + if (synFold (seqBits w 0 n)).getLsbD 9 then 1 else 0, ?_⟩
    rw [snoc, bitPoly_synStep, horner, ← hq]
    cases (synFold (seqBits w 0 n)).getLsbD 9
    · simp only [Bool.false_eq_true, if_false]
      ring
    · simp only [if_true]
      linear_combination CharTwo.add_self_eq_zero generatorPoly

/-- The syndrome bits are those of the divider's working value. -/
theorem bitPoly_syn (w : Word) : bitPoly 10 (syn w).getLsbD = bitPoly 10 (synFold (seqBits w 0 31)).getLsbD :=
  bitPoly_congr fun k hk => by simp [syn, hk]

/-- Settles O25: the divider's value differs from the protected span by a multiple of G, and its degree is below 10. -/
theorem syndromeIsThePolynomialRemainder : Obligations.SyndromeIsThePolynomialRemainder := by
  refine ⟨fun w => ?_, by decide +kernel, by decide +kernel⟩
  obtain ⟨q, hq⟩ := bitPoly_synFold w 31
  have span : bitPoly 31 (fun k => seqBit w (31 - (k + 1))) = bitPoly 31 (fun k => w.getLsbD (k + 1)) :=
    bitPoly_congr fun k hk => by rw [seqBit, show 31 - (31 - (k + 1)) = k + 1 by omega]
  rw [← bitPoly_syn, span] at hq
  have lower : (bitPoly 10 (syn w).getLsbD).degree < generatorPoly.degree := by
    rw [degree_generatorPoly]
    exact degree_bitPoly_lt 10 _
  exact (div_modByMonic_unique q _ monic_generatorPoly ⟨hq, lower⟩).2.symm

/-! ### Parity -/

theorem parityExp_xor (v w : Word) : parityExp (v ^^^ w) = (parityExp v ^^ parityExp w) :=
  foldl_seqBits_xor (step := xor) (add := xor) (by decide) v w 0 31 false false

theorem parityOk_xor (v w : Word) : parityOk (v ^^^ w) = (parityOk v == parityOk w) := by
  rw [parityOk_eq_beq, parityOk_eq_beq, parityOk_eq_beq, parityExp_xor, BitVec.getLsbD_xor]
  cases v.getLsbD 0 <;> cases w.getLsbD 0 <;> cases parityExp v <;> cases parityExp w <;> rfl

theorem parityOk_seqMask {j : Nat} (hj : j < 32) : parityOk (seqMask j) = false := by
  have one : popcount (seqMask j) = 1 := by
    rw [popcount_eq_sum, Finset.sum_eq_single (31 - j)]
    · simp [seqMask_getLsbD hj]
    · intro i _ hi
      simp [seqMask_getLsbD hj, hi]
    · intro h
      exact absurd (Finset.mem_range.mpr (by omega)) h
  rw [parityOk, one]
  rfl

/-- A single flip changes the overall parity. -/
theorem parityOk_xor_seqMask (w : Word) {j : Nat} (hj : j < 32) : parityOk (w ^^^ seqMask j) = !parityOk w := by
  rw [parityOk_xor, parityOk_seqMask hj]
  cases parityOk w <;> rfl

theorem parityOk_xor_parityMask (w : Word) : parityOk (w ^^^ 1#32) = !parityOk w :=
  parityOk_xor_seqMask w (j := 31) (by decide)

end Sys2Proof.Machine
end

section
/-! The correction function (41_error_correction.md R174 to R178): the patterns of weight at most 2 have distinct
syndromes, so each search has at most one answer, and what CORRECT answers for each pattern follows. -/

namespace Sys2Proof.Machine

/-! ### Uniqueness (41_error_correction.md R177) -/

/-- The numbers of the list are distinct and none is a bit of the bitmap seen. -/
def freshIn : Nat → List Nat → Bool
  | _, [] => true
  | seen, v :: vs => !seen.testBit v && freshIn (seen ||| 1 <<< v) vs

theorem nodup_of_freshIn {seen : Nat} {vs : List Nat} (h : freshIn seen vs = true) :
    vs.Nodup ∧ ∀ v ∈ vs, seen.testBit v = false := by
  induction vs generalizing seen with
  | nil => simp
  | cons v vs ih =>
    simp only [freshIn, Bool.and_eq_true, Bool.not_eq_true'] at h
    obtain ⟨hv, hvs⟩ := h
    obtain ⟨nodup, unseen⟩ := ih hvs
    simp only [Nat.testBit_or, Bool.or_eq_false_iff] at unseen
    refine ⟨List.nodup_cons.mpr ⟨fun hmem => ?_, nodup⟩, List.forall_mem_cons.mpr ⟨hv, fun u hu => (unseen u hu).1⟩⟩
    simpa [Nat.testBit_shiftLeft] using (unseen v hmem).2

/-- The patterns Correct undoes: none, one flip, or two flips. -/
def correctablePatterns : List Word := 0#32 :: (singlePatterns ++ doublePatterns)

/-- The syndromes of those patterns, from the table. -/
def correctableSyndromes : List Nat := 0 :: (synTable ++
  (List.range 31).flatMap fun j => (List.range j).map fun i => synTable.getD i 0 ^^^ synTable.getD j 0)

theorem map_syn_correctablePatterns :
    correctablePatterns.map (fun e => (syn e).toNat) = correctableSyndromes := by
  have doubles : doublePatterns.map (fun e => (syn e).toNat) =
      (List.range 31).flatMap fun j => (List.range j).map fun i => synTable.getD i 0 ^^^ synTable.getD j 0 := by
    rw [doublePatterns, List.map_flatMap]
    refine List.flatMap_congr fun j hj => ?_
    have hj31 : j < 31 := List.mem_range.mp hj
    rw [List.map_map]
    refine List.map_congr_left fun i hi => ?_
    have hij : i < j := List.mem_range.mp hi
    rw [Function.comp_apply, syn_xor, BitVec.toNat_xor, syn_seqMask_toNat (by omega), syn_seqMask_toNat hj31]
  have singles : singlePatterns.map (fun e => (syn e).toNat) = synTable := by
    rw [singlePatterns, List.map_map]
    exact map_syn_seqMask
  rw [correctablePatterns, List.map_cons, List.map_append, singles, doubles, syn_zero, correctableSyndromes]
  rfl

/-- The syndromes of the 497 patterns are distinct, by enumeration (41_error_correction.md R177). -/
theorem nodup_map_syn : (correctablePatterns.map fun e => (syn e).toNat).Nodup := by
  have fresh : freshIn 0 correctableSyndromes = true := by decide +kernel
  rw [map_syn_correctablePatterns]
  exact (nodup_of_freshIn fresh).1

/-- At most one pattern of weight 2 or less has a given syndrome. -/
theorem pattern_unique {e e' : Word} (he : e ∈ correctablePatterns) (he' : e' ∈ correctablePatterns)
    (h : syn e = syn e') : e = e' :=
  List.inj_on_of_nodup_map (f := fun e => (syn e).toNat) nodup_map_syn he he' (congrArg BitVec.toNat h)

theorem nodup_correctablePatterns : correctablePatterns.Nodup := nodup_map_syn.of_map

/-- e is a pattern of n flips that the BCH stages try. -/
inductive IsFlip : BitVec 2 → Word → Prop
  | single {e : Word} : e ∈ singlePatterns → IsFlip 1#2 e
  | double {e : Word} : e ∈ doublePatterns → IsFlip 2#2 e

theorem isFlip_seqMask {j : Nat} (hj : j < 31) : IsFlip 1#2 (seqMask j) := .single (mem_singlePatterns.mpr ⟨j, hj, rfl⟩)

theorem isFlip_xor_seqMask {i j : Nat} (hij : i < j) (hj : j < 31) : IsFlip 2#2 (seqMask i ^^^ seqMask j) :=
  .double (mem_doublePatterns.mpr ⟨j, hj, i, hij, rfl⟩)

section
variable {n n' : BitVec 2} {w e e' : Word}

theorem IsFlip.mem (he : IsFlip n e) : e ∈ singlePatterns ++ doublePatterns := by
  cases he with
  | single h => exact List.mem_append_left _ h
  | double h => exact List.mem_append_right _ h

/-- A flip has a syndrome other than 0. -/
theorem IsFlip.syn_ne_zero (he : IsFlip n e) : syn e ≠ 0#10 := fun hs => by
  have zero : e = 0#32 :=
    pattern_unique (List.mem_cons_of_mem _ he.mem) List.mem_cons_self (hs.trans syn_zero.symm)
  exact (List.nodup_cons.mp nodup_correctablePatterns).1 (zero ▸ he.mem)

/-- A syndrome tells both the flip and the number of its bits. -/
theorem IsFlip.unique (he : IsFlip n e) (he' : IsFlip n' e') (h : syn e = syn e') : n = n' ∧ e = e' := by
  have same : e = e' := pattern_unique (List.mem_cons_of_mem _ he.mem) (List.mem_cons_of_mem _ he'.mem) h
  have disjoint : singlePatterns.Disjoint doublePatterns :=
    List.disjoint_of_nodup_append (List.nodup_cons.mp nodup_correctablePatterns).2
  subst same
  refine ⟨?_, rfl⟩
  cases he with
  | single h1 => cases he' with
    | single => rfl
    | double h2 => exact absurd h2 (disjoint h1)
  | double h2 => cases he' with
    | single h1 => exact absurd h2 (disjoint h1)
    | double => rfl

/-! ### The stages (41_error_correction.md R174) -/

/-- What the BCH stages can answer, by the syndrome: no error, a flip of that syndrome, or uncorrectable. -/
theorem bchStage_by_syndrome (w : Word) :
    (syn w = 0#10 ∧ bchStage w = { w1 := w, n := 0#2, unc := false }) ∨
    (∃ n e, IsFlip n e ∧ syn w = syn e ∧ bchStage w = { w1 := w ^^^ e, n := n, unc := false }) ∨
    (syn w ≠ 0#10 ∧ (∀ n e, IsFlip n e → syn w ≠ syn e) ∧ bchStage w = { w1 := w, n := 0#2, unc := true }) := by
  obtain h | ⟨-, e, he, hs, hb⟩ | ⟨-, -, e, he, hs, hb⟩ | ⟨h0, h1, h2, hb⟩ := bchStage_cases w
  · exact .inl h
  · exact .inr (.inl ⟨_, e, .single he, syn_xor_eq_zero.mp hs, hb⟩)
  · exact .inr (.inl ⟨_, e, .double he, syn_xor_eq_zero.mp hs, hb⟩)
  · refine .inr (.inr ⟨h0, fun n e he hs => ?_, hb⟩)
    cases he with
    | single he => exact h1 e he (syn_xor_eq_zero.mpr hs)
    | double he => exact h2 e he (syn_xor_eq_zero.mpr hs)

/-- The BCH stages find the one flip whose syndrome the word has (41_error_correction.md R177). -/
theorem bchStage_of_flip (he : IsFlip n e) (h : syn w = syn e) :
    bchStage w = { w1 := w ^^^ e, n := n, unc := false } := by
  obtain ⟨h0, -⟩ | ⟨n', e', he', hs, hb⟩ | ⟨-, noFlip, -⟩ := bchStage_by_syndrome w
  · exact absurd (h.symm.trans h0) he.syn_ne_zero
  · obtain ⟨rfl, rfl⟩ := he.unique he' (h.symm.trans hs)
    exact hb
  · exact absurd h (noFlip n e he)

/-- With syndrome 0 only the parity bit may be flipped, and the answer is always valid. -/
theorem correctWord_of_clean (h : syn w = 0#10) : correctWord w =
    { w2 := if parityOk w then w else w ^^^ 1#32, n := if parityOk w then 0#2 else 1#2, valid := true, unc := false,
      pflip := !parityOk w, pok := true, s0 := 0#10 } := by
  have stages : bchStage w = { w1 := w, n := 0#2, unc := false } := if_pos h
  simp only [correctWord, parityFlip, stages, h]
  cases hp : parityOk w <;> simp [hp, parityOk_xor_parityMask]

/-- With another syndrome the BCH stages alone decide the word. -/
theorem correctWord_of_syn_ne (h : syn w ≠ 0#10) : correctWord w =
    { w2 := (bchStage w).w1, n := (bchStage w).n, valid := !(bchStage w).unc && parityOk (bchStage w).w1,
      unc := (bchStage w).unc, pflip := false, pok := parityOk (bchStage w).w1, s0 := syn w } := by
  simp only [correctWord, parityFlip_of_syn_ne h]
  rfl

/-- With the syndrome of a flip that flip is undone, and the parity decides VALID. -/
theorem correctWord_of_flip (he : IsFlip n e) (h : syn w = syn e) : correctWord w =
    { w2 := w ^^^ e, n := n, valid := parityOk (w ^^^ e), unc := false, pflip := false, pok := parityOk (w ^^^ e),
      s0 := syn w } := by
  rw [correctWord_of_syn_ne (h ▸ he.syn_ne_zero), bchStage_of_flip he h]
  rfl

/-- With any other syndrome the word is returned unchanged as uncorrectable. -/
theorem correctWord_of_uncorrectable (h0 : syn w ≠ 0#10) (noFlip : ∀ n e, IsFlip n e → syn w ≠ syn e) :
    correctWord w =
    { w2 := w, n := 0#2, valid := false, unc := true, pflip := false, pok := parityOk w, s0 := syn w } := by
  obtain ⟨h, -⟩ | ⟨n, e, he, h, -⟩ | ⟨-, -, hb⟩ := bchStage_by_syndrome w
  · exact absurd h h0
  · exact absurd h (noFlip n e he)
  · rw [correctWord_of_syn_ne h0, hb]
    rfl

end

/-- The three kinds of syndrome, by which Correct answers. -/
theorem syndrome_cases (w : Word) : syn w = 0#10 ∨ (∃ n e, IsFlip n e ∧ syn w = syn e) ∨
    (syn w ≠ 0#10 ∧ ∀ n e, IsFlip n e → syn w ≠ syn e) := by
  obtain ⟨h, -⟩ | ⟨n, e, he, h, -⟩ | ⟨h0, noFlip, -⟩ := bchStage_by_syndrome w
  · exact .inl h
  · exact .inr (.inl ⟨n, e, he, h⟩)
  · exact .inr (.inr ⟨h0, noFlip⟩)

/-! ### The command CORRECT -/

/-- The fields of RES1 of CORRECT (41_error_correction.md R176). -/
theorem correctFlags_fields (c : Correction) :
    (correctFlags c).extractLsb' 0 2 = c.n ∧ (correctFlags c).getLsbD 2 = c.valid ∧
    (correctFlags c).getLsbD 3 = c.unc ∧ (correctFlags c).getLsbD 4 = c.pflip ∧ (correctFlags c).getLsbD 5 = c.pok ∧
    (correctFlags c).extractLsb' 6 10 = 0#10 ∧ (correctFlags c).extractLsb' 16 10 = c.s0 ∧
    (correctFlags c).extractLsb' 26 6 = 0#6 := by
  unfold correctFlags
  refine ⟨BitVec.extractLsb'_append_eq_right, ?valid, ?unc, ?pflip, ?pok, ?gap, ?s0, ?zero⟩
  case zero =>
    repeat rw [BitVec.extractLsb'_append_eq_of_le (by decide)]
    exact BitVec.extractLsb'_eq_self
  case gap | s0 =>
    repeat rw [BitVec.extractLsb'_append_eq_of_le (by decide)]
    exact BitVec.extractLsb'_append_eq_right
  all_goals
    simp only [BitVec.getLsbD_append]
    simp

/-- VALID says that the answer is a codeword of even parity (41_error_correction.md R175). -/
theorem correctWord_valid_iff (w : Word) :
    (correctWord w).valid = true ↔ syn (correctWord w).w2 = 0#10 ∧ parityOk (correctWord w).w2 = true := by
  obtain h | ⟨n, e, he, h⟩ | ⟨h0, noFlip⟩ := syndrome_cases w
  · rw [correctWord_of_clean h]
    cases hp : parityOk w <;> simp [hp, h, syn_xor, parityOk_xor_parityMask]
  · rw [correctWord_of_flip he h]
    simp [syn_xor_eq_zero.mpr h]
  · rw [correctWord_of_uncorrectable h0 noFlip]
    simp [h0]

/-- What N, PFLIP and UNC say of one another and of the word (41_error_correction.md R176). -/
theorem correctWord_flags (w : Word) :
    (correctWord w).n ≠ 3#2 ∧
    ((correctWord w).pflip = true →
      (correctWord w).n = 1#2 ∧ (correctWord w).valid = true ∧ (correctWord w).unc = false) ∧
    ((correctWord w).unc = true →
      (correctWord w).valid = false ∧ (correctWord w).n = 0#2 ∧ (correctWord w).w2 = w) := by
  obtain h | ⟨n, e, he, h⟩ | ⟨h0, noFlip⟩ := syndrome_cases w
  · rw [correctWord_of_clean h]
    cases parityOk w <;> simp
  · rw [correctWord_of_flip he h]
    cases he <;> simp
  · simp [correctWord_of_uncorrectable h0 noFlip]

/-- Settles O14: the results of the command, and the flags by the three kinds of syndrome. -/
theorem correctWritesTheCorrectionAndItsFlags : Obligations.CorrectWritesTheCorrectionAndItsFlags := by
  refine ⟨fun s hb => ?_, fun w => ?_, fun w => ?_, fun w => ?_, correctWord_valid_iff, fun a1 a0 => ?_⟩
  · exact ⟨_, exec_of_unitResults hb rfl rfl, correctFlags_fields _⟩
  · obtain ⟨notThree, -, -⟩ := correctWord_flags w
    exact notThree
  · obtain ⟨-, pflip, -⟩ := correctWord_flags w
    exact pflip
  · obtain ⟨-, -, unc⟩ := correctWord_flags w
    exact unc
  · exact decode_commandWord (i := .correct) (by simp) (by simp)

/-- Settles O15: a flip that matches is the pattern the search finds, since its syndrome is that of the word. -/
theorem correctFollowsItsStages : Obligations.CorrectFollowsItsStages := by
  refine fun w => ⟨correctWord_s0 w, correctWord_pok w, ?_, fun h => ?_, fun h0 => ⟨?_, fun j hj hs => ?_, fun h1 =>
    ⟨fun i j hij hj hs => ?_, fun h2 => ?_⟩⟩⟩
  · rw [correctWord_valid]
    simp
  · rw [correctWord_of_clean h]
    cases parityOk w <;> simp
  · rw [correctWord_of_syn_ne h0]
  · rw [correctWord_of_flip (isFlip_seqMask hj) (syn_xor_eq_zero.mp hs)]
    exact ⟨rfl, rfl, rfl⟩
  · rw [BitVec.xor_assoc] at hs ⊢
    rw [correctWord_of_flip (isFlip_xor_seqMask hij hj) (syn_xor_eq_zero.mp hs)]
    exact ⟨rfl, rfl, rfl⟩
  · rw [correctWord_of_uncorrectable h0 fun n e he hs => ?_]
    · exact ⟨rfl, rfl, rfl⟩
    cases he with
    | single he =>
      obtain ⟨j, hj, rfl⟩ := mem_singlePatterns.mp he
      exact h1 j hj (syn_xor_eq_zero.mpr hs)
    | double he =>
      obtain ⟨j, hj, i, hij, rfl⟩ := mem_doublePatterns.mp he
      exact h2 i j hij hj (by rwa [BitVec.xor_assoc, syn_xor_eq_zero])

/-! ### What is restored (41_error_correction.md R178) -/

/-- Settles O27: both words have syndrome 0, and their parity decides whether W[0] is flipped. -/
theorem cleanAndParityOnlyErrorsAreRestored : Obligations.CleanAndParityOnlyErrorsAreRestored := by
  intro c hc hp
  rw [correctWord_of_clean hc, correctWord_of_clean ((syn_xor_parityMask c).trans hc), parityOk_xor_parityMask, hp]
  simp

/-- A codeword of either parity is found back from its protected flips, and its parity decides VALID. -/
theorem correctWord_xor_flip {c e : Word} {n : BitVec 2} (hc : syn c = 0#10) (he : IsFlip n e) :
    (correctWord (c ^^^ e)).w2 = c ∧ (correctWord (c ^^^ e)).n = n ∧
    (correctWord (c ^^^ e)).valid = parityOk c := by
  have h : syn (c ^^^ e) = syn e := by rw [syn_xor, hc, BitVec.zero_xor]
  rw [correctWord_of_flip he h]
  simp

/-- Settles O28: e(j) is a flip of one bit. -/
theorem singleErrorsAreRestored : Obligations.SingleErrorsAreRestored := by
  intro c hc hp j hj
  rw [← hp]
  exact correctWord_xor_flip hc (isFlip_seqMask hj)

/-- Settles O29: e(i) xor e(j) is a flip of two bits. -/
theorem doubleErrorsAreRestored : Obligations.DoubleErrorsAreRestored := by
  intro c hc hp i j hij hj
  rw [← hp, BitVec.xor_assoc]
  exact correctWord_xor_flip hc (isFlip_xor_seqMask hij hj)

/-- Settles O30: the codeword with the wrong parity bit is found back, and its parity is odd. -/
theorem protectedAndParityErrorsAreInvalid : Obligations.ProtectedAndParityErrorsAreInvalid := by
  intro c hc hp
  have hc' : syn (c ^^^ 1#32) = 0#10 := (syn_xor_parityMask c).trans hc
  have hp' : parityOk (c ^^^ 1#32) = false := by rw [parityOk_xor_parityMask, hp, Bool.not_true]
  have swap (e : Word) : c ^^^ e ^^^ 1#32 = c ^^^ 1#32 ^^^ e := by ac_rfl
  rw [← hp']
  refine ⟨fun j hj => ?_, fun i j hij hj => ?_⟩
  · rw [swap]
    exact correctWord_xor_flip hc' (isFlip_seqMask hj)
  · rw [BitVec.xor_assoc c, swap]
    exact correctWord_xor_flip hc' (isFlip_xor_seqMask hij hj)

theorem isFlip_xor_seqMask_of_ne {i j : Nat} (hi : i < 31) (hj : j < 31) (hne : i ≠ j) :
    IsFlip 2#2 (seqMask i ^^^ seqMask j) := by
  obtain hlt | hgt := Nat.lt_or_gt_of_ne hne
  · exact isFlip_xor_seqMask hlt hj
  · rw [BitVec.xor_comm]
    exact isFlip_xor_seqMask hgt hi

/-- Two pairs of flips differ at a position that only one of them has. -/
theorem xor_seqMask_ne {i j k l : Nat} (hik : i < k) (hjk : j < k) (hk : k < 31) (hl : l < 31) (hkl : k ≠ l) :
    seqMask i ^^^ seqMask j ≠ seqMask k ^^^ seqMask l := by
  intro same
  have left : (seqMask i ^^^ seqMask j).getLsbD (31 - k) = false := by
    rw [BitVec.getLsbD_xor, seqMask_getLsbD (by omega), seqMask_getLsbD (by omega), decide_eq_false (by omega),
      decide_eq_false (by omega), Bool.xor_false]
  have right : (seqMask k ^^^ seqMask l).getLsbD (31 - k) = true := by
    rw [BitVec.getLsbD_xor, seqMask_getLsbD (by omega), seqMask_getLsbD (by omega), decide_eq_true rfl,
      decide_eq_false (by omega), Bool.xor_false]
  rw [same, right] at left
  cases left

/-- No single flip has the syndrome of three: four wrong bits are seen, the code having distance 5. -/
theorem syn_triple_ne_single {i j k l : Nat} (hij : i < j) (hjk : j < k) (hk : k < 31) (hl : l < 31) :
    syn (seqMask i ^^^ seqMask j ^^^ seqMask k) ≠ syn (seqMask l) := by
  intro h
  have pairs : syn (seqMask i ^^^ seqMask j) = syn (seqMask k ^^^ seqMask l) := by
    rwa [← syn_xor_eq_zero, BitVec.xor_assoc, syn_xor_eq_zero] at h
  have double := isFlip_xor_seqMask hij (hjk.trans hk)
  by_cases hkl : k = l
  · exact double.syn_ne_zero (by simpa [hkl] using pairs)
  · obtain ⟨-, same⟩ := double.unique (isFlip_xor_seqMask_of_ne hk hl hkl) pairs
    exact xor_seqMask_ne (hij.trans hjk) hjk hk hl hkl same

/-- Two flips keep the overall parity. -/
theorem parityOk_xor_double (w : Word) {e : Word} (he : e ∈ doublePatterns) : parityOk (w ^^^ e) = parityOk w := by
  obtain ⟨j, hj, i, hij, rfl⟩ := mem_doublePatterns.mp he
  rw [← BitVec.xor_assoc, parityOk_xor_seqMask _ (by omega), parityOk_xor_seqMask _ (by omega), Bool.not_not]

/-- Settles O31: neither no flip nor one leads to a codeword, and after two the parity of the three errors stays odd. -/
theorem tripleErrorsAreInvalid : Obligations.TripleErrorsAreInvalid := by
  intro c hc hp i j k hij hjk hk
  have odd : parityOk (c ^^^ seqMask i ^^^ seqMask j ^^^ seqMask k) = false := by
    simp [parityOk_xor_seqMask, hp, show i < 32 by omega, show j < 32 by omega, show k < 32 by omega]
  have triple : syn (c ^^^ seqMask i ^^^ seqMask j ^^^ seqMask k) = syn (seqMask i ^^^ seqMask j ^^^ seqMask k) := by
    simp only [syn_xor, hc, BitVec.zero_xor]
  obtain h | ⟨n, e, he, h⟩ | ⟨h0, noFlip⟩ := syndrome_cases (c ^^^ seqMask i ^^^ seqMask j ^^^ seqMask k)
  · have merged := (isFlip_xor_seqMask hij (hjk.trans hk)).unique (isFlip_seqMask hk)
      (syn_xor_eq_zero.mp (triple.symm.trans h))
    exact absurd merged.1 (by decide)
  · rw [correctWord_of_flip he h]
    cases he with
    | single he =>
      obtain ⟨l, hl, rfl⟩ := mem_singlePatterns.mp he
      exact absurd (triple.symm.trans h) (syn_triple_ne_single hij hjk hk hl)
    | double he => exact (parityOk_xor_double _ he).trans odd
  · rw [correctWord_of_uncorrectable h0 noFlip]

end Sys2Proof.Machine
end

section
/-! The frame parser's commands CLASSIFY, DECODE and RUN, each engine step of a RUN with its next state, and how far a
RUN is from its end (42_frame_parser.md R203 to R214, R217). -/

namespace Sys2Proof.Machine

/-! ### CLASSIFY, DECODE and the acceptance of RUN -/

/-- Settles O16: the Idle comparison comes first, then the flag bit decides. -/
theorem classifyWritesTheTypeOfTheRawWord : Obligations.ClassifyWritesTheTypeOfTheRawWord := by
  refine ⟨fun a1 a0 => decode_commandWord (i := .classify) (by simp) (by simp), fun s hb => ?_⟩
  have results : exec .classify s = .next { s with res0 := (typeCode (typeOf s.opa)).setWidth 32, res1 := 0#32 } :=
    exec_of_unitResults hb rfl rfl
  refine ⟨fun h => ?_, fun h hflag => ?_, fun h hflag => ?_⟩
  · have type : typeOf s.opa = .idle := if_pos h
    rw [results, type]
    rfl
  · have type : typeOf s.opa = .address := (if_neg h).trans (if_neg (Bool.eq_false_iff.mp hflag))
    rw [results, type]
    rfl
  · have type : typeOf s.opa = .message := (if_neg h).trans (if_pos hflag)
    rw [results, type]
    rfl

/-- The fields of RES1 of DECODE (42_frame_parser.md R204). -/
theorem decodeFlags_fields (c : Correction) :
    (decodeFlags c).extractLsb' 0 2 = c.n ∧ (decodeFlags c).getLsbD 2 = c.valid ∧
    (decodeFlags c).extractLsb' 3 2 = typeCode (typeOf c.w2) ∧ (decodeFlags c).extractLsb' 5 7 = 0#7 ∧
    (decodeFlags c).extractLsb' 12 20 = payloadOf c.w2 := by
  unfold decodeFlags
  refine ⟨BitVec.extractLsb'_append_eq_right, ?valid, ?type, ?gap, ?payload⟩
  case valid =>
    simp only [BitVec.getLsbD_append]
    simp
  case payload =>
    repeat rw [BitVec.extractLsb'_append_eq_of_le (by decide)]
    exact BitVec.extractLsb'_eq_self
  case type | gap =>
    repeat rw [BitVec.extractLsb'_append_eq_of_le (by decide)]
    exact BitVec.extractLsb'_append_eq_right

/-- IDLE is a codeword of even parity (00_scope.md R7). -/
theorem idleWord_clean : syn idleWord = 0#10 ∧ parityOk idleWord = true := by decide +kernel

/-- The codeword whose first bit is wrong in the corner case of 42_frame_parser.md R204. -/
theorem messageWord_clean : syn 0x87074238#32 = 0#10 ∧ parityOk 0x87074238#32 = true := by decide +kernel

/-- Settles O17: the fields of RES1, and the two corner cases as a parity error of one codeword and a first-bit error of
another. -/
theorem decodeWritesTheCorrectedCodeword : Obligations.DecodeWritesTheCorrectedCodeword := by
  refine ⟨fun s hb => ⟨_, exec_of_unitResults hb rfl rfl, decodeFlags_fields _⟩, ⟨?_, by decide⟩, ?_,
    fun a1 a0 => decode_commandWord (i := .decode) (by simp) (by simp)⟩
  · obtain ⟨hs, hp⟩ := idleWord_clean
    obtain ⟨-, restored, -⟩ := cleanAndParityOnlyErrorsAreRestored _ hs hp
    exact (congrArg typeOf restored).trans (if_pos rfl)
  · obtain ⟨hs, hp⟩ := messageWord_clean
    obtain ⟨restored, one, -⟩ := singleErrorsAreRestored _ hs hp 0 (by decide)
    exact ⟨(congrArg typeOf restored).trans (by decide), one⟩

/-- Settles O21: the acceptance on an idle block, and the refusal while BUSY. -/
theorem runIsAccepted : Obligations.RunIsAccepted :=
  ⟨fun _ hb => congrArg Host.Outcome.next (accept_idle hb startRun), fun _ hb => exec_busy (by simp) hb,
    fun _ _ => decode_commandWord (i := .run) (by simp) (by simp)⟩

/-! ### The engine steps of a RUN -/

section
variable {s : State}

theorem engineStep_of_start (h : s.estate = .start) : engineStep s = stepStart s := by rw [engineStep, h]

theorem engineStep_of_scan (h : s.estate = .scan) : engineStep s = stepScan s := by rw [engineStep, h]

theorem engineStep_of_batch (h : s.estate = .batch) : engineStep s = stepBatch s := by rw [engineStep, h]

theorem engineStep_of_flush (h : s.estate = .flush) : engineStep s = stepFlush s := by rw [engineStep, h]

theorem closeIfOpen_of_closed (h : s.openF = false) (r : CloseReason) : closeIfOpen r s = s := by simp [closeIfOpen, h]

theorem closeIfOpen_of_open (h : s.openF = true) (r : CloseReason) : closeIfOpen r s = closeMsg r s := by
  simp [closeIfOpen, h]

end

/-- Settles O41: the step needs a free entry only to close an open message. -/
theorem startClosesAnOpenMessage : Obligations.StartClosesAnOpenMessage := by
  intro s he
  rw [engineStep_of_start he, stepStart]
  refine ⟨fun ho => ?_, fun ho hf => ?_, fun ho hf => ?_⟩
  · rw [whenFree_enabled (by simp [ho]), closeIfOpen_of_closed ho]
    rfl
  · rw [whenFree_enabled (by simpa [ho] using hf), closeIfOpen_of_open ho]
    rfl
  · rw [whenFree_held (by simp [ho, hf])]

section
variable {s : State}

theorem stepScan_of_end (h : s.len.toNat < s.scanP + 32) : stepScan s = .next (setEstate .flush s) := if_pos h

theorem stepScan_of_unwritten (h : s.scanP + 32 ≤ s.len.toNat) (hw : window s.ibb s.scanP = none) :
    stepScan s = .fault .unwrittenWindow := by
  simp [stepScan, Nat.not_lt.mpr h, hw]

theorem stepScan_of_ne {w : Word} (h : s.scanP + 32 ≤ s.len.toNat) (hw : window s.ibb s.scanP = some w)
    (hne : w ≠ preambleWord) : stepScan s = .next { s with scanP := s.scanP + 1 } := by
  simp [stepScan, Nat.not_lt.mpr h, hw, hne]

theorem stepScan_of_batch (h : s.scanP + 544 ≤ s.len.toNat) (hw : window s.ibb s.scanP = some preambleWord) :
    stepScan s = .next (scanMatch s) := by
  have hle : s.scanP + 32 ≤ s.len.toNat := by omega
  rw [stepScan, if_neg (Nat.not_lt.mpr hle), hw]
  exact (if_neg (not_not_intro rfl)).trans (if_pos h)

theorem stepScan_of_incomplete (h : s.scanP + 32 ≤ s.len.toNat) (hl : s.len.toNat < s.scanP + 544)
    (hw : window s.ibb s.scanP = some preambleWord) : stepScan s = .next (whenFree 1 s scanIncomplete) := by
  rw [stepScan, if_neg (Nat.not_lt.mpr h), hw]
  exact (if_neg (not_not_intro rfl)).trans (if_neg (Nat.not_le.mpr hl))

end

/-- Settles O42: the branches by the end of the input, the window at P, and the room for a batch after it. -/
theorem scanFollowsItsBranches : Obligations.ScanFollowsItsBranches := by
  intro s he
  rw [engineStep_of_scan he]
  refine ⟨stepScan_of_end, fun h => ⟨stepScan_of_unwritten h, fun w hw => stepScan_of_ne h hw,
    fun hw hb => stepScan_of_batch hb hw, fun hw hl hf => ?_, fun hw hl hf => ?_⟩⟩
  · rw [stepScan_of_incomplete h hl hw, whenFree_enabled hf]
    rfl
  · rw [stepScan_of_incomplete h hl hw, whenFree_held (by omega)]

section
variable {s : State} {raw : Word}

theorem stepBatch_of_unwritten (h : window s.ibb (codewordPos s) = none) : stepBatch s = .fault .unwrittenWindow := by
  rw [stepBatch, h]

theorem stepBatch_of_window (h : window s.ibb (codewordPos s) = some raw) :
    stepBatch s = .next (whenFree (need raw s) s fun s => advanceBatch (codewordStep raw s.cwK s)) := by
  rw [stepBatch, h]

/-- The codeword step leaves K, P, RUNBATCH and STAT_BATCH to the end of the BATCH step. -/
theorem advanceBatch_codewordStep (raw : Word) (k : BitVec 4) (s : State) :
    advanceBatch (codewordStep raw k s) = if s.cwK = 15#4 then { codewordStep raw k s with
      runBatch := s.runBatch + 1#32, statBatch := s.statBatch + 1#32, scanP := s.scanP + 1, estate := .scan }
    else { codewordStep raw k s with cwK := s.cwK + 1#4 } := by
  rw [codewordStep_frame]
  rfl

end

/-- Settles O43: the codeword step, and then the next codeword or the end of the batch. -/
theorem batchTakesOneCodeword : Obligations.BatchTakesOneCodeword := by
  intro s he
  rw [engineStep_of_batch he]
  refine ⟨stepBatch_of_unwritten, fun raw hw => ?_⟩
  rw [stepBatch_of_window hw]
  refine ⟨fun hf => ?_, fun hf hk => ?_, fun hf hk => ?_⟩
  · rw [whenFree_held hf]
  · rw [whenFree_enabled hf, advanceBatch_codewordStep, if_neg hk]
  · rw [whenFree_enabled hf, advanceBatch_codewordStep, if_pos hk]

/-- Settles O44: FLUSH needs an entry for RUN_DONE and one for the message it closes. -/
theorem flushEndsTheRun : Obligations.FlushEndsTheRun := by
  intro s he
  rw [engineStep_of_flush he, stepFlush]
  refine ⟨fun hf => ?_, fun ho hf => ?_, fun ho hf => ?_⟩
  · rw [whenFree_held hf]
  · rw [whenFree_enabled (by simpa [ho] using hf), closeIfOpen_of_closed ho]
    rfl
  · rw [whenFree_enabled (by simpa [ho] using hf), closeIfOpen_of_open ho]
    simp [finishRun, closeMsg, push]

/-! ### The distance of a RUN from its end -/

theorem scanFuel_pos (L p : Nat) : 1 < scanFuel L p := by
  unfold scanFuel
  omega

/-- A step of the scan costs one engine step. -/
theorem scanFuel_succ_lt {L p : Nat} (h : p + 32 ≤ L) : scanFuel L (p + 1) < scanFuel L p := by
  unfold scanFuel
  omega

/-- A batch costs sixteen engine steps more, which only a position with 544 bits left has. -/
theorem scanFuel_batch_lt {L p : Nat} (h : p + 544 ≤ L) : 16 + scanFuel L (p + 1) < scanFuel L p := by
  unfold scanFuel
  omega

section
variable {s t : State}

theorem runFuel_of_start (h : s.estate = .start) : runFuel s = 1 + scanFuel s.len.toNat s.scanP := by rw [runFuel, h]

theorem runFuel_of_scan (h : s.estate = .scan) : runFuel s = scanFuel s.len.toNat s.scanP := by rw [runFuel, h]

theorem runFuel_of_batch (h : s.estate = .batch) :
    runFuel s = 16 - s.cwK.toNat + scanFuel s.len.toNat (s.scanP + 1) := by rw [runFuel, h]

/-- A BATCH step brings the end of the batch, or of the RUN, nearer. -/
theorem runFuel_advanceBatch_lt (hb : s.estate = .batch) : runFuel (advanceBatch s) < runFuel s := by
  have hk : s.cwK.toNat < 16 := s.cwK.isLt
  rw [runFuel_of_batch hb]
  obtain ⟨-, e⟩ | ⟨hne, e⟩ := advanceBatch_cases s <;> rw [e]
  · rw [runFuel_of_scan rfl]
    show scanFuel s.len.toNat (s.scanP + 1) < _
    omega
  · have hnext : (s.cwK + 1#4).toNat = s.cwK.toNat + 1 := by bv_omega
    rw [runFuel_of_batch (s := { s with cwK := s.cwK + 1#4 }) hb]
    show 16 - (s.cwK + 1#4).toNat + scanFuel s.len.toNat (s.scanP + 1) < _
    omega

/-- The codeword step moves no register the distance depends on. -/
theorem runFuel_codewordStep (raw : Word) (k : BitVec 4) (s : State) : runFuel (codewordStep raw k s) = runFuel s := by
  rw [codewordStep_frame]
  rfl

/-- Every move of the engine but a hold lowers the bound. -/
theorem EngineMove.eq_or_runFuel_lt (m : EngineMove s t) : t = s ∨ runFuel t < runFuel s := by
  cases m with
  | hold => exact .inl rfl
  | start he =>
    rw [runFuel_of_start he, closeIfOpen_frame]
    exact .inr (Nat.lt_add_of_pos_left Nat.one_pos)
  | scanEnd he | scanIncomplete he =>
    rw [runFuel_of_scan he]
    exact .inr (scanFuel_pos _ _)
  | scanNext he hl =>
    rw [runFuel_of_scan he, runFuel_of_scan (s := { s with scanP := s.scanP + 1 }) he]
    exact .inr (scanFuel_succ_lt hl)
  | scanBatch he hl =>
    rw [runFuel_of_scan he]
    exact .inr (scanFuel_batch_lt hl)
  | batch raw he =>
    rw [← runFuel_codewordStep raw s.cwK s]
    refine .inr (runFuel_advanceBatch_lt ?_)
    rw [codewordStep_frame]
    exact he
  | flush he | asm he | aend he =>
    rw [runFuel, runFuel, he]
    exact .inr Nat.one_pos

end

/-- Settles O56: every move but a hold lowers the bound, and an accepted RUN starts at P = 0. -/
theorem engineStepsRunOut : Obligations.EngineStepsRunOut := by
  refine ⟨fun s t _ h => (EngineMove.of_engineStep h).eq_or_runFuel_lt, fun s t hb h => ?_⟩
  obtain ⟨accepted, -, -⟩ := runIsAccepted
  rw [accepted s hb] at h
  cases h
  show 1 + scanFuel s.len.toNat 0 ≤ _
  unfold scanFuel
  omega

end Sys2Proof.Machine
end

section
/-! What a RUN computes (42_frame_parser.md R205): what a RUN in progress will leave is a state that none of its steps
changes, and with room in the FIFO for that state's records no step holds. -/

namespace Sys2Proof.Machine

/-! ### The registers of the scan and the assembler -/

/-- The registers of the scan, which the assembler neither reads nor writes. -/
structure ScanRegs where
  estate : EState
  scanP : Nat
  cwK : BitVec 4
  runBatch : Word
  statBatch : Word
  stSync : Bool
  stIncomplete : Bool

/-- s with the scan's registers replaced. -/
def setScan (c : ScanRegs) (s : State) : State :=
  { s with
    estate := c.estate, scanP := c.scanP, cwK := c.cwK, runBatch := c.runBatch, statBatch := c.statBatch
    stSync := c.stSync, stIncomplete := c.stIncomplete }

section
variable (c : ScanRegs) (s : State)

@[simp] theorem setScan_setScan (c' : ScanRegs) : setScan c (setScan c' s) = setScan c s := rfl
@[simp] theorem setScan_ibb : (setScan c s).ibb = s.ibb := rfl
@[simp] theorem setScan_len : (setScan c s).len = s.len := rfl
@[simp] theorem setScan_fifo : (setScan c s).fifo = s.fifo := rfl
@[simp] theorem setScan_runBatch : (setScan c s).runBatch = c.runBatch := rfl
@[simp] theorem setScan_statBatch : (setScan c s).statBatch = c.statBatch := rfl
@[simp] theorem setScan_stSync : (setScan c s).stSync = c.stSync := rfl
@[simp] theorem setScan_stIncomplete : (setScan c s).stIncomplete = c.stIncomplete := rfl

theorem closeIfOpen_setScan (r : CloseReason) : closeIfOpen r (setScan c s) = setScan c (closeIfOpen r s) := by
  obtain ⟨h, e⟩ | ⟨h, e⟩ := closeIfOpen_cases r s
  · rw [e, closeIfOpen_of_open (s := setScan c s) h]
    rfl
  · rw [e, closeIfOpen_of_closed (s := setScan c s) h]

theorem assemble_setScan (k : BitVec 4) (w : Correction) :
    assemble k w (setScan c s) = setScan c (assemble k w s) := by
  unfold assemble
  cases typeOf w.w2 with
  | address =>
    simp only [onAddress, closeIfOpen_setScan]
    rfl
  | idle => exact closeIfOpen_setScan c s .idle
  | message => exact (apply_ite (setScan c) (s.openF = true) (onPayload k w s) (onOrphan k w s)).symm

theorem codewordStep_setScan (raw : Word) (k : BitVec 4) :
    codewordStep raw k (setScan c s) = setScan c (codewordStep raw k s) :=
  assemble_setScan c (countCodeword (correctWord raw) s) k (correctWord raw)

theorem assembleStream_setScan (ws : List (Word × BitVec 4)) :
    assembleStream ws (setScan c s) = setScan c (assembleStream ws s) := by
  induction ws generalizing s with
  | nil => rfl
  | cons w ws ih => exact (congrArg (assembleStream ws) (codewordStep_setScan c s w.1 w.2)).trans (ih _)

theorem reportIncomplete_setScan (p : Option Nat) :
    reportIncomplete p (setScan c s) = setScan c (reportIncomplete p s) := by
  cases p <;> rfl

end

section
variable (raw : Word) (k : BitVec 4) (s : State)

@[simp] theorem codewordStep_estate : (codewordStep raw k s).estate = s.estate := by rw [codewordStep_frame]
@[simp] theorem codewordStep_scanP : (codewordStep raw k s).scanP = s.scanP := by rw [codewordStep_frame]
@[simp] theorem codewordStep_cwK : (codewordStep raw k s).cwK = s.cwK := by rw [codewordStep_frame]
@[simp] theorem codewordStep_runBatch : (codewordStep raw k s).runBatch = s.runBatch := by rw [codewordStep_frame]
@[simp] theorem codewordStep_statBatch : (codewordStep raw k s).statBatch = s.statBatch := by rw [codewordStep_frame]
@[simp] theorem codewordStep_stSync : (codewordStep raw k s).stSync = s.stSync := by rw [codewordStep_frame]
@[simp] theorem codewordStep_stIncomplete : (codewordStep raw k s).stIncomplete = s.stIncomplete := by
  rw [codewordStep_frame]
@[simp] theorem codewordStep_ibb : (codewordStep raw k s).ibb = s.ibb := by rw [codewordStep_frame]
@[simp] theorem codewordStep_len : (codewordStep raw k s).len = s.len := by rw [codewordStep_frame]

theorem codewordStep_fifo_length : (codewordStep raw k s).fifo.length = s.fifo.length + need raw s := by
  obtain ⟨rs, e, hl, -⟩ := codewordStep_pushes raw k s
  rw [e, List.length_append, hl]

end

/-! ### A codeword stream -/

theorem assembleStream_cons (w : Word × BitVec 4) (ws : List (Word × BitVec 4)) (s : State) :
    assembleStream (w :: ws) s = assembleStream ws (codewordStep w.1 w.2 s) := rfl

theorem assembleStream_append (ws ws' : List (Word × BitVec 4)) (s : State) :
    assembleStream (ws ++ ws') s = assembleStream ws' (assembleStream ws s) := List.foldl_append

@[simp] theorem assembleStream_ibb (ws : List (Word × BitVec 4)) (s : State) : (assembleStream ws s).ibb = s.ibb := by
  induction ws generalizing s with
  | nil => rfl
  | cons w ws ih => rw [assembleStream_cons, ih, codewordStep_ibb]

@[simp] theorem assembleStream_len (ws : List (Word × BitVec 4)) (s : State) : (assembleStream ws s).len = s.len := by
  induction ws generalizing s with
  | nil => rfl
  | cons w ws ih => rw [assembleStream_cons, ih, codewordStep_len]

theorem length_le_assembleStream (ws : List (Word × BitVec 4)) (s : State) :
    s.fifo.length ≤ (assembleStream ws s).fifo.length := by
  induction ws generalizing s with
  | nil => exact le_rfl
  | cons w ws ih =>
    have first := codewordStep_fifo_length w.1 w.2 s
    exact (first ▸ Nat.le_add_right _ _).trans (ih _)

theorem length_le_reportIncomplete (p : Option Nat) (s : State) :
    s.fifo.length ≤ (reportIncomplete p s).fifo.length := by
  cases p <;> simp [reportIncomplete]

/-- The codewords of the batch after the preamble at p from index k on. -/
def codewordsFrom (m : List Host.Cell) (p k : Nat) : List (Word × BitVec 4) :=
  (List.range' k (16 - k)).filterMap fun j =>
    (window m (p + cwBits + cwBits * j)).map fun w => (w, BitVec.ofNat 4 j)

theorem codewordsFrom_zero (m : List Host.Cell) (p : Nat) : codewordsFrom m p 0 = batchCodewords m p := by
  rw [batchCodewords, List.range_eq_range']
  rfl

theorem codewordsFrom_cons {m : List Host.Cell} {p k : Nat} {w : Word} (hk : k < 16)
    (hw : window m (p + cwBits + cwBits * k) = some w) :
    codewordsFrom m p k = (w, BitVec.ofNat 4 k) :: codewordsFrom m p (k + 1) := by
  have count : 16 - k = 16 - (k + 1) + 1 := by omega
  rw [codewordsFrom, count, List.range'_succ, List.filterMap_cons, hw]
  rfl

/-! ### The matches from a position on -/

/-- The members of M from p on (42_frame_parser.md R205). -/
def matchesFrom (m : List Host.Cell) (L p : Nat) : List Nat :=
  (List.range' p (L - 31 - p)).filter fun q => window m q == some preambleWord

section
variable {m : List Host.Cell} {L p : Nat}

theorem matchesFrom_zero (m : List Host.Cell) (L : Nat) : matchesFrom m L 0 = runMatches m L := by
  rw [runMatches, List.range_eq_range']
  rfl

theorem matchesFrom_of_end (h : L < p + 32) : matchesFrom m L p = [] := by
  rw [matchesFrom, show L - 31 - p = 0 by omega]
  rfl

theorem matchesFrom_step (h : p + 32 ≤ L) : matchesFrom m L p =
    if window m p == some preambleWord then p :: matchesFrom m L (p + 1) else matchesFrom m L (p + 1) := by
  have count : L - 31 - p = L - 31 - (p + 1) + 1 := by omega
  rw [matchesFrom, count, List.range'_succ, List.filter_cons]
  rfl

theorem matchesFrom_of_match (h : p + 32 ≤ L) (hw : window m p = some preambleWord) :
    matchesFrom m L p = p :: matchesFrom m L (p + 1) := by
  rw [matchesFrom_step h, if_pos (by simp [hw])]

theorem matchesFrom_of_ne {w : Word} (h : p + 32 ≤ L) (hw : window m p = some w) (hne : w ≠ preambleWord) :
    matchesFrom m L p = matchesFrom m L (p + 1) := by
  rw [matchesFrom_step h, if_neg (by simp [hw, hne])]

theorem le_of_mem_matchesFrom {q : Nat} (h : q ∈ matchesFrom m L p) : p ≤ q :=
  (List.mem_range'_1.mp (List.mem_of_mem_filter h)).1

end

/-- The matches of ms with a whole batch after them. -/
def completeBatches (L : Nat) (ms : List Nat) : List Nat := ms.filter fun p => decide (p + cwBits + batchBits ≤ L)

/-- The first match of ms without a whole batch after it. -/
def firstIncomplete (L : Nat) (ms : List Nat) : Option Nat := ms.find? fun p => decide (L < p + cwBits + batchBits)

section
variable {L p : Nat} {ms : List Nat}

theorem completeBatches_cons (h : p + 544 ≤ L) : completeBatches L (p :: ms) = p :: completeBatches L ms :=
  List.filter_cons_of_pos (decide_eq_true h)

theorem firstIncomplete_cons (h : p + 544 ≤ L) : firstIncomplete L (p :: ms) = firstIncomplete L ms :=
  List.find?_cons_of_neg fun hd => absurd (of_decide_eq_true hd) (Nat.not_lt.mpr h)

theorem completeBatches_of_short (h : ∀ q ∈ ms, L < q + 544) : completeBatches L ms = [] :=
  List.filter_eq_nil_iff.mpr fun q hq hd => absurd (of_decide_eq_true hd) (Nat.not_le.mpr (h q hq))

theorem firstIncomplete_of_short (h : L < p + 544) : firstIncomplete L (p :: ms) = some p :=
  List.find?_cons_of_pos (decide_eq_true h)

end

/-! ### What is left of a RUN -/

/-- The assembler slot, the counters and the FIFO after the scan of the matches ms and the end of input. -/
def endAssembly (ms : List Nat) (s : State) : State :=
  closeIfOpen .endOfInput
    (reportIncomplete (firstIncomplete s.len.toNat ms)
      (assembleStream ((completeBatches s.len.toNat ms).flatMap (batchCodewords s.ibb)) s))

/-- The counts and flags after the scan of the matches ms. The end of a RUN leaves P and K open. -/
def endRegs (ms : List Nat) (s : State) : ScanRegs where
  estate := .idle
  scanP := 0
  cwK := 0#4
  runBatch := s.runBatch + BitVec.ofNat 32 (completeBatches s.len.toNat ms).length
  statBatch := s.statBatch + BitVec.ofNat 32 (completeBatches s.len.toNat ms).length
  stSync := s.stSync || !ms.isEmpty
  stIncomplete := s.stIncomplete || (firstIncomplete s.len.toNat ms).isSome

/-- What a RUN leaves when the matches ms are still to be scanned, but for the RUN_DONE report. -/
def runEndWith (ms : List Nat) (s : State) : State := setScan (endRegs ms s) (endAssembly ms s)

section
variable (ms : List Nat) (s : State)

theorem endAssembly_setScan (c : ScanRegs) : endAssembly ms (setScan c s) = setScan c (endAssembly ms s) := by
  simp only [endAssembly, setScan_ibb, setScan_len, assembleStream_setScan, reportIncomplete_setScan,
    closeIfOpen_setScan]

theorem runEndWith_setScan (c : ScanRegs) :
    runEndWith ms (setScan c s) = setScan (endRegs ms (setScan c s)) (endAssembly ms s) := by
  rw [runEndWith, endAssembly_setScan, setScan_setScan]

/-- What is left does not depend on where the scan stands. -/
theorem runEndWith_move (e : EState) (p : Nat) (k : BitVec 4) :
    runEndWith ms { s with estate := e, scanP := p, cwK := k } = runEndWith ms s :=
  runEndWith_setScan ms s ⟨e, p, k, s.runBatch, s.statBatch, s.stSync, s.stIncomplete⟩

theorem length_le_runEndWith : s.fifo.length ≤ (runEndWith ms s).fifo.length :=
  calc s.fifo.length
    _ ≤ _ := length_le_assembleStream _ s
    _ ≤ _ := length_le_reportIncomplete (firstIncomplete s.len.toNat ms) _
    _ ≤ (endAssembly ms s).fifo.length := (closeIfOpen_fifo_length _ _).symm ▸ Nat.le_add_right _ _

theorem endRegs_nil : endRegs [] s =
    ⟨.idle, 0, 0#4, s.runBatch, s.statBatch, s.stSync, s.stIncomplete⟩ := by
  simp [endRegs, completeBatches, firstIncomplete]

/-- A complete batch is assembled and counted before what is left after it (42_frame_parser.md R213). -/
theorem runEndWith_batch {p : Nat} (h : p + 544 ≤ s.len.toNat) (e : EState) (q : Nat) (k : BitVec 4) :
    runEndWith ms (setScan ⟨e, q, k, s.runBatch + 1#32, s.statBatch + 1#32, true, s.stIncomplete⟩
      (assembleStream (batchCodewords s.ibb p) s)) = runEndWith (p :: ms) s := by
  have count (v : Word) (n : Nat) : v + 1#32 + BitVec.ofNat 32 n = v + BitVec.ofNat 32 (n + 1) := by
    rw [BitVec.add_assoc, BitVec.ofNat_add, BitVec.add_comm 1#32]
  rw [runEndWith_setScan, runEndWith]
  congr 1
  · simp [endRegs, completeBatches_cons h, firstIncomplete_cons h, count]
  · simp [endAssembly, completeBatches_cons h, firstIncomplete_cons h, assembleStream_append]

/-- After an incomplete batch nothing is left but the end of input (42_frame_parser.md R212). -/
theorem runEndWith_incomplete {p : Nat} (h : ∀ q ∈ p :: ms, s.len.toNat < q + 544) (e : EState) (q : Nat)
    (k : BitVec 4) :
    runEndWith [] (setScan ⟨e, q, k, s.runBatch, s.statBatch, true, true⟩ (push (incompleteRecord p) s)) =
      runEndWith (p :: ms) s := by
  have first : firstIncomplete s.len.toNat (p :: ms) = some p := firstIncomplete_of_short (h p List.mem_cons_self)
  rw [runEndWith_setScan, runEndWith, endRegs_nil]
  congr 1
  · simp [endRegs, completeBatches_of_short h, first, setScan]
  · rw [endAssembly, endAssembly, completeBatches_of_short h, first]
    rfl

end

/-- The state after the rest of the batch in progress (42_frame_parser.md R213). -/
def batchEnd (s : State) : State :=
  setScan ⟨.scan, s.scanP + 1, 15#4, s.runBatch + 1#32, s.statBatch + 1#32, s.stSync, s.stIncomplete⟩
    (assembleStream (codewordsFrom s.ibb s.scanP s.cwK.toNat) s)

/-- What a RUN in the state s leaves, but for the RUN_DONE report (42_frame_parser.md R205). -/
def runEnd (s : State) : State :=
  match s.estate with
  | .scan => runEndWith (matchesFrom s.ibb s.len.toNat s.scanP) s
  | .batch => runEndWith (matchesFrom s.ibb s.len.toNat (s.scanP + 1)) (batchEnd s)
  | _ => runEndWith [] s

section
variable {s : State}

theorem runEnd_of_scan (h : s.estate = .scan) :
    runEnd s = runEndWith (matchesFrom s.ibb s.len.toNat s.scanP) s := by rw [runEnd, h]

theorem runEnd_of_batch (h : s.estate = .batch) :
    runEnd s = runEndWith (matchesFrom s.ibb s.len.toNat (s.scanP + 1)) (batchEnd s) := by rw [runEnd, h]

theorem runEnd_of_flush (h : s.estate = .flush) : runEnd s = runEndWith [] s := by rw [runEnd, h]

theorem length_le_runEnd (s : State) : s.fifo.length ≤ (runEnd s).fifo.length := by
  unfold runEnd
  split
  · exact length_le_runEndWith _ s
  · exact (length_le_assembleStream _ s).trans (length_le_runEndWith _ (batchEnd s))
  · exact length_le_runEndWith _ s

/-! ### No step changes what is left -/

theorem runEnd_scanEnd (he : s.estate = .scan) (h : s.len.toNat < s.scanP + 32) :
    runEnd (setEstate .flush s) = runEnd s := by
  rw [runEnd_of_flush rfl, runEnd_of_scan he, matchesFrom_of_end h]
  exact runEndWith_move [] s .flush s.scanP s.cwK

theorem runEnd_scanNext {w : Word} (he : s.estate = .scan) (h : s.scanP + 32 ≤ s.len.toNat)
    (hw : window s.ibb s.scanP = some w) (hne : w ≠ preambleWord) :
    runEnd { s with scanP := s.scanP + 1 } = runEnd s := by
  rw [runEnd_of_scan (s := { s with scanP := s.scanP + 1 }) he, runEnd_of_scan he, matchesFrom_of_ne h hw hne]
  exact runEndWith_move _ s s.estate (s.scanP + 1) s.cwK

theorem runEnd_scanMatch (he : s.estate = .scan) (h : s.scanP + 544 ≤ s.len.toNat)
    (hw : window s.ibb s.scanP = some preambleWord) : runEnd (scanMatch s) = runEnd s := by
  have batch : batchEnd (scanMatch s) =
      setScan ⟨.scan, s.scanP + 1, 15#4, s.runBatch + 1#32, s.statBatch + 1#32, true, s.stIncomplete⟩
        (assembleStream (batchCodewords s.ibb s.scanP) s) := by
    rw [← codewordsFrom_zero, ← setScan_setScan _ _
      ⟨.batch, s.scanP, 0#4, s.runBatch, s.statBatch, true, s.stIncomplete⟩, ← assembleStream_setScan]
    rfl
  rw [runEnd_of_batch rfl, runEnd_of_scan he, matchesFrom_of_match (by omega) hw, batch]
  exact runEndWith_batch _ s h .scan (s.scanP + 1) 15#4

theorem runEnd_scanIncomplete (he : s.estate = .scan) (h : s.scanP + 32 ≤ s.len.toNat)
    (hl : s.len.toNat < s.scanP + 544) (hw : window s.ibb s.scanP = some preambleWord) :
    runEnd (scanIncomplete s) = runEnd s := by
  rw [runEnd_of_flush rfl, runEnd_of_scan he, matchesFrom_of_match h hw]
  refine runEndWith_incomplete _ s (fun q hq => ?_) .flush s.scanP s.cwK
  have hle : s.scanP ≤ q := by
    obtain rfl | hq := List.mem_cons.mp hq
    · exact le_rfl
    · exact (Nat.le_succ _).trans (le_of_mem_matchesFrom hq)
  omega

/-- The rest of a batch begins with codeword K. -/
theorem batchEnd_cons {raw : Word} (hw : window s.ibb (codewordPos s) = some raw) : batchEnd s =
    setScan ⟨.scan, s.scanP + 1, 15#4, s.runBatch + 1#32, s.statBatch + 1#32, s.stSync, s.stIncomplete⟩
      (assembleStream (codewordsFrom s.ibb s.scanP (s.cwK.toNat + 1)) (codewordStep raw s.cwK s)) := by
  rw [batchEnd, codewordsFrom_cons s.cwK.isLt hw, BitVec.ofNat_toNat, BitVec.setWidth_eq]
  rfl

/-- After the sixteenth codeword the batch is at its end. -/
theorem advanceBatch_eq_batchEnd {raw : Word} (hk : s.cwK = 15#4) (hw : window s.ibb (codewordPos s) = some raw) :
    advanceBatch (codewordStep raw s.cwK s) = batchEnd s := by
  rw [advanceBatch_codewordStep, if_pos hk, batchEnd_cons hw, hk]
  simp [setScan, codewordsFrom, assembleStream, hk]

/-- Before it the rest of the batch begins with the next codeword. -/
theorem batchEnd_advanceBatch {raw : Word} (hk : s.cwK ≠ 15#4) (hw : window s.ibb (codewordPos s) = some raw) :
    batchEnd (advanceBatch (codewordStep raw s.cwK s)) = batchEnd s := by
  have next : advanceBatch (codewordStep raw s.cwK s) =
      setScan ⟨s.estate, s.scanP, s.cwK + 1#4, s.runBatch, s.statBatch, s.stSync, s.stIncomplete⟩
        (codewordStep raw s.cwK s) := by
    rw [advanceBatch_codewordStep, if_neg hk]
    simp [setScan]
  have hnext : (s.cwK + 1#4).toNat = s.cwK.toNat + 1 := by bv_omega
  rw [batchEnd_cons hw, next, batchEnd, assembleStream_setScan, setScan_setScan, ← hnext]
  simp [setScan]

theorem runEnd_advanceBatch {raw : Word} (he : s.estate = .batch) (hw : window s.ibb (codewordPos s) = some raw) :
    runEnd (advanceBatch (codewordStep raw s.cwK s)) = runEnd s := by
  rw [runEnd_of_batch he]
  by_cases hk : s.cwK = 15#4
  · rw [advanceBatch_eq_batchEnd hk hw, runEnd_of_scan rfl]
    simp [batchEnd, setScan]
  · have batch : (advanceBatch (codewordStep raw s.cwK s)).estate = .batch := by
      simp [advanceBatch_codewordStep, hk, he]
    rw [runEnd_of_batch batch, batchEnd_advanceBatch hk hw]
    simp [advanceBatch_codewordStep, hk]

end

/-! ### A RUN with room in the FIFO -/

/-- Every window inside LEN of a loaded input is written (70_reset_and_hazards.md R324). -/
theorem Loaded.window_eq_some {s : State} (h : Loaded s) {b : Nat} (hb : b + 32 ≤ s.len.toNat) :
    ∃ w, window s.ibb b = some w :=
  Option.isSome_iff_exists.mp (window_isSome (h (b / 32) (by omega)) fun hne => h (b / 32 + 1) (by omega))

/-- A RUN past START, undisturbed (log 1), with its input written and room in the FIFO for all its records. -/
structure RunReady (s : State) : Prop where
  inv : Inv s
  loaded : Loaded s
  undisturbed : s.agenda = []
  stage : s.estate = .scan ∨ s.estate = .batch ∨ s.estate = .flush
  room : (runEnd s).fifo.length < s.params.fifoDepth

/-- The engine step from s to t goes on with a RUN: it changes nothing of what is left and brings the end nearer. -/
structure RunAdvance (s t : State) : Prop where
  step : engineStep s = .next t
  stage : t.estate = .scan ∨ t.estate = .batch ∨ t.estate = .flush
  same : runEnd t = runEnd s
  nearer : runFuel t < runFuel s

section
variable {s t : State}

theorem EngineMove.params (m : EngineMove s t) : t.params = s.params := by rw [m.frame]

theorem EngineMove.agenda (m : EngineMove s t) : t.agenda = s.agenda := by rw [m.frame]

/-- The engine writes neither the buffer nor LEN (20_memory.md R88). -/
theorem EngineMove.loaded (m : EngineMove s t) (h : Loaded s) : Loaded t := by
  rw [m.frame]
  exact h

theorem RunReady.next (h : RunReady s) (a : RunAdvance s t) : RunReady t := by
  have m : EngineMove s t := .of_engineStep a.step
  exact ⟨m.inv h.inv, m.loaded h.loaded, m.agenda.trans h.undisturbed, a.stage, by
    rw [a.same, m.params]
    exact h.room⟩

/-- A step that changes nothing of what is left has room for its records. -/
theorem RunReady.le_free (h : RunReady s) {m : Nat} (same : runEnd t = runEnd s)
    (pushed : t.fifo.length = s.fifo.length + m) : m ≤ free s := by
  have grown : t.fifo.length ≤ (runEnd s).fifo.length := same ▸ length_le_runEnd t
  have room := h.room
  unfold free
  omega

theorem RunReady.advance_of_scan (h : RunReady s) (he : s.estate = .scan) : ∃ t, RunAdvance s t := by
  have nearer {n : Nat} (hn : n < scanFuel s.len.toNat s.scanP) : n < runFuel s := (runFuel_of_scan he).symm ▸ hn
  have step := engineStep_of_scan he
  by_cases hend : s.len.toNat < s.scanP + 32
  · exact ⟨_, step.trans (stepScan_of_end hend), .inr (.inr rfl), runEnd_scanEnd he hend, nearer (scanFuel_pos _ _)⟩
  have hle : s.scanP + 32 ≤ s.len.toNat := Nat.le_of_not_lt hend
  obtain ⟨w, hw⟩ := h.loaded.window_eq_some hle
  by_cases hp : w = preambleWord
  · subst hp
    by_cases hb : s.scanP + 544 ≤ s.len.toNat
    · exact ⟨_, step.trans (stepScan_of_batch hb hw), .inr (.inl rfl), runEnd_scanMatch he hb hw,
        nearer (scanFuel_batch_lt hb)⟩
    · have hl : s.len.toNat < s.scanP + 544 := Nat.lt_of_not_le hb
      have same : runEnd (scanIncomplete s) = runEnd s := runEnd_scanIncomplete he hle hl hw
      have room : 1 ≤ free s := h.le_free same List.length_append
      refine ⟨scanIncomplete s, ?_, .inr (.inr rfl), same, nearer (scanFuel_pos _ _)⟩
      rw [step, stepScan_of_incomplete hle hl hw, whenFree_enabled room]
  · refine ⟨_, step.trans (stepScan_of_ne hle hw hp), .inl he, runEnd_scanNext he hle hw hp, nearer ?_⟩
    rw [runFuel_of_scan (s := { s with scanP := s.scanP + 1 }) he]
    exact scanFuel_succ_lt hle

theorem RunReady.advance_of_batch (h : RunReady s) (he : s.estate = .batch) : ∃ t, RunAdvance s t := by
  obtain ⟨raw, hw⟩ := h.loaded.window_eq_some (h.inv.codewordPos_le he)
  have batch : (codewordStep raw s.cwK s).estate = .batch := (codewordStep_estate raw s.cwK s).trans he
  have same := runEnd_advanceBatch he hw
  have room : need raw s ≤ free s := h.le_free same (by
    rw [advanceBatch_frame]
    exact codewordStep_fifo_length raw s.cwK s)
  refine ⟨advanceBatch (codewordStep raw s.cwK s), ?_, ?_, same, ?_⟩
  · rw [engineStep_of_batch he, stepBatch_of_window hw, whenFree_enabled room]
  · obtain ⟨-, e⟩ | ⟨-, e⟩ := advanceBatch_cases (codewordStep raw s.cwK s) <;> rw [e]
    · exact .inl rfl
    · exact .inr (.inl batch)
  · rw [← runFuel_codewordStep raw s.cwK s]
    exact runFuel_advanceBatch_lt batch

theorem RunReady.advance (h : RunReady s) (he : s.estate ≠ .flush) : ∃ t, RunAdvance s t := by
  obtain hscan | hbatch | hflush := h.stage
  · exact h.advance_of_scan hscan
  · exact h.advance_of_batch hbatch
  · exact absurd hflush he

theorem RunReady.engineStep_of_flush (h : RunReady s) (he : s.estate = .flush) :
    engineStep s = .next (finishRun (closeIfOpen .endOfInput s)) := by
  have length : (runEnd s).fifo.length = s.fifo.length + s.openF.toNat := by
    rw [runEnd_of_flush he]
    exact closeIfOpen_fifo_length .endOfInput s
  have room : 1 + s.openF.toNat ≤ free s := by
    have hroom := h.room
    unfold free
    omega
  rw [Machine.engineStep_of_flush he, stepFlush, whenFree_enabled room]

/-- FLUSH reports what is left by then. -/
theorem finishRun_of_flush (he : s.estate = .flush) : finishRun (closeIfOpen .endOfInput s) =
    { finishRun (runEnd s) with
      scanP := (finishRun (closeIfOpen .endOfInput s)).scanP
      cwK := (finishRun (closeIfOpen .endOfInput s)).cwK } := by
  rw [runEnd_of_flush he, runEndWith, endRegs_nil, show endAssembly [] s = closeIfOpen .endOfInput s from rfl,
    closeIfOpen_frame]
  rfl

/-- Without pending events the machine's steps are the engine's (log 1). -/
theorem run_succ_of_engineStep (ha : s.agenda = []) (h : engineStep s = .next t) (n : Nat) :
    Host.Core.run Sys2Proof.core (n + 1) s = Host.Core.run Sys2Proof.core n t := by
  have next : Sys2Proof.core.step s = .next t := (step_of_nil ha).trans h
  simp only [Host.Core.run, next]

/-- A RUN past START ends within its bound in the state that is left, with the RUN_DONE report. -/
theorem RunReady.run_ends (h : RunReady s) : ∃ (n : Nat) (t : State), n ≤ runFuel s ∧
    Host.Core.run Sys2Proof.core n s = .next t ∧
    t = { finishRun (runEnd s) with scanP := t.scanP, cwK := t.cwK } := by
  induction hf : runFuel s using Nat.strong_induction_on generalizing s with
  | _ fuel ih =>
    by_cases he : s.estate = .flush
    · have one : 1 ≤ fuel := by rw [← hf, runFuel, he]
      exact ⟨1, _, one, run_succ_of_engineStep h.undisturbed (h.engineStep_of_flush he) 0, finishRun_of_flush he⟩
    · obtain ⟨t, a⟩ := h.advance he
      obtain ⟨n, u, hn, hrun, hu⟩ := ih _ (hf ▸ a.nearer) (h.next a) rfl
      rw [a.same] at hu
      have bound : n + 1 ≤ fuel := hf ▸ hn.trans_lt a.nearer
      exact ⟨n + 1, u, bound, (run_succ_of_engineStep h.undisturbed a.step n).trans hrun, hu⟩

/-! ### The whole RUN -/

theorem endAssembly_runMatches (s : State) :
    endAssembly (runMatches s.ibb s.len.toNat) (closeIfOpen .endOfInput s) = runAssembly s := by
  have frame := closeIfOpen_frame .endOfInput s
  have ibb : (closeIfOpen .endOfInput s).ibb = s.ibb := by rw [frame]
  have len : (closeIfOpen .endOfInput s).len = s.len := by rw [frame]
  rw [endAssembly, ibb, len]
  rfl

/-- What is left after START is the meaning of RUN (42_frame_parser.md R205). -/
theorem runEnd_of_start (hp : s.scanP = 0) : runEnd (setEstate .scan (closeIfOpen .endOfInput s)) =
    setScan (endRegs (runMatches s.ibb s.len.toNat) s) (runAssembly s) := by
  have ms : matchesFrom (closeIfOpen .endOfInput s).ibb (closeIfOpen .endOfInput s).len.toNat
      (closeIfOpen .endOfInput s).scanP = runMatches s.ibb s.len.toNat := by
    rw [closeIfOpen_frame, hp]
    exact matchesFrom_zero s.ibb s.len.toNat
  have regs (ms : List Nat) : endRegs ms (closeIfOpen .endOfInput s) = endRegs ms s := by
    rw [closeIfOpen_frame]
    rfl
  calc runEnd (setEstate .scan (closeIfOpen .endOfInput s))
    _ = runEndWith (runMatches s.ibb s.len.toNat) (setEstate .scan (closeIfOpen .endOfInput s)) :=
      (runEnd_of_scan rfl).trans (congrArg (runEndWith · _) ms)
    _ = runEndWith (runMatches s.ibb s.len.toNat) (closeIfOpen .endOfInput s) := runEndWith_move _ _ .scan _ _
    _ = _ := by rw [runEndWith, endAssembly_runMatches, regs]

/-- A RUN about to START has room for the message START closes, and is ready after it. -/
theorem ready_of_start (hi : Inv s) (hl : Loaded s) (ha : s.agenda = []) (he : s.estate = .start) (hp : s.scanP = 0)
    (hroom : (runAssembly s).fifo.length + 1 ≤ s.params.fifoDepth) :
    engineStep s = .next (setEstate .scan (closeIfOpen .endOfInput s)) ∧
    RunReady (setEstate .scan (closeIfOpen .endOfInput s)) := by
  have left := runEnd_of_start hp
  have grown := length_le_runEnd (setEstate .scan (closeIfOpen .endOfInput s))
  rw [left, setScan_fifo, setEstate_fifo, closeIfOpen_fifo_length] at grown
  have room : s.openF.toNat ≤ free s := by
    unfold free
    omega
  have step : engineStep s = .next (setEstate .scan (closeIfOpen .endOfInput s)) := by
    rw [engineStep_of_start he, stepStart, whenFree_enabled room]
  have m : EngineMove s _ := .of_engineStep step
  exact ⟨step, m.inv hi, m.loaded hl, m.agenda.trans ha, .inl rfl, by rw [left, m.params]; exact hroom⟩

/-- The meaning of a RUN with the flags and counts that its acceptance clears (42_frame_parser.md R206). -/
theorem finishRun_runAssembly (s0 : State) (p : Nat) (k : BitVec 4) (hs : s = startRun s0) :
    { finishRun (setScan (endRegs (runMatches s.ibb s.len.toNat) s) (runAssembly s)) with scanP := p, cwK := k } =
    { runAssembly s with
      fifo := (runAssembly s).fifo ++ [runFinalRecord s]
      statBatch := s.statBatch + runBatchCount s
      runBatch := runBatchCount s
      stSync := !(runMatches s.ibb s.len.toNat).isEmpty
      stIncomplete := (runIncomplete s.ibb s.len.toNat).isSome
      stNosync := (runMatches s.ibb s.len.toNat).isEmpty
      stDone := true
      estate := .idle
      scanP := p
      cwK := k } := by
  have count : s.runBatch + runBatchCount s = runBatchCount s := by
    rw [show s.runBatch = 0#32 by rw [hs]; rfl, BitVec.zero_add]
  have sync : s.stSync = false := by rw [hs]; rfl
  have incomplete : s.stIncomplete = false := by rw [hs]; rfl
  have regs : endRegs (runMatches s.ibb s.len.toNat) s =
      ⟨.idle, 0, 0#4, s.runBatch + runBatchCount s, s.statBatch + runBatchCount s,
        s.stSync || !(runMatches s.ibb s.len.toNat).isEmpty,
        s.stIncomplete || (runIncomplete s.ibb s.len.toNat).isSome⟩ := rfl
  rw [regs, count, sync, incomplete, Bool.false_or, Bool.false_or]
  simp [finishRun, setScan, runFinalRecord, push]

/-- Settles O57: after START the RUN is ready, what is left of it is its meaning, and FLUSH reports it. -/
theorem runComputesItsMeaning : Obligations.RunComputesItsMeaning := by
  intro s0 s hi hl hb ha hrun hroom
  obtain ⟨-, bound⟩ := engineStepsRunOut
  have fuel := bound s0 s hb hrun
  obtain ⟨accepted, -, -⟩ := runIsAccepted
  have hs : s = startRun s0 := Host.Outcome.next.inj (hrun.symm.trans (accepted s0 hb))
  have start : s.estate = .start := by rw [hs]; rfl
  have zero : s.scanP = 0 := by rw [hs]; rfl
  obtain ⟨step, ready⟩ := ready_of_start (hs ▸ hi.startRun) (hs ▸ hl) (hs ▸ ha) start zero hroom
  obtain ⟨n, t, hn, hrun', ht⟩ := ready.run_ends
  have nearer : runFuel (setEstate .scan (closeIfOpen .endOfInput s)) + 1 ≤ runFuel s := by
    rw [runFuel_of_start start, closeIfOpen_frame]
    exact (Nat.add_comm _ _).le
  refine ⟨n + 1, t, by omega, (run_succ_of_engineStep (hs ▸ ha) step n).trans hrun', ?_⟩
  rw [runEnd_of_start zero, finishRun_runAssembly s0 _ _ hs] at ht
  exact ht

end

end Sys2Proof.Machine
end

section
/-! The message assembler (43_message_assembler.md): the fields of the records, the codeword step by the type of the
corrected word, the records it pushes, and the commands ASMCW and ASMEND with their engine steps. -/

namespace Sys2Proof.Machine

/-! ### Records -/

theorem codewordRecord_fields (kind cwi : BitVec 4) (c : Correction) :
    (codewordRecord kind cwi c).hi.extractLsb' 24 4 = cwi ∧ (codewordRecord kind cwi c).hi.extractLsb' 22 2 = c.n ∧
    (codewordRecord kind cwi c).hi.getLsbD 21 = c.valid ∧ (codewordRecord kind cwi c).hi.getLsbD 20 = false ∧
    (codewordRecord kind cwi c).hi.extractLsb' 0 20 = payloadOf c.w2 := by
  unfold codewordRecord
  refine ⟨?index, ?corrections, ?valid, ?gap, BitVec.extractLsb'_append_eq_right⟩
  case index | corrections =>
    repeat rw [BitVec.extractLsb'_append_eq_of_le (by decide)]
    exact BitVec.extractLsb'_append_eq_right
  case valid | gap =>
    simp only [BitVec.getLsbD_append]
    simp

theorem closeRecord_fields (reason : CloseReason) (mv : Bool) (pcnt : BitVec 16) (recipient : Word) :
    (closeRecord reason mv pcnt recipient).hi.extractLsb' 26 2 = reasonCode reason ∧
    (closeRecord reason mv pcnt recipient).hi.extractLsb' 22 4 = 0#4 ∧
    (closeRecord reason mv pcnt recipient).hi.getLsbD 21 = mv ∧
    (closeRecord reason mv pcnt recipient).hi.extractLsb' 16 5 = 0#5 ∧
    (closeRecord reason mv pcnt recipient).hi.extractLsb' 0 16 = pcnt := by
  unfold closeRecord
  refine ⟨?reason, ?high, ?valid, ?low, BitVec.extractLsb'_append_eq_right⟩
  case valid =>
    simp only [BitVec.getLsbD_append]
    simp
  case reason | high | low =>
    repeat rw [BitVec.extractLsb'_append_eq_of_le (by decide)]
    exact BitVec.extractLsb'_append_eq_right

theorem runDoneRecord_fields (incomplete nosync : Bool) (batches : Word) :
    (runDoneRecord incomplete nosync batches).hi.extractLsb' 2 26 = 0#26 ∧
    (runDoneRecord incomplete nosync batches).hi.getLsbD 1 = incomplete ∧
    (runDoneRecord incomplete nosync batches).hi.getLsbD 0 = nosync := by
  unfold runDoneRecord
  refine ⟨?gap, ?incomplete, ?nosync⟩
  case gap =>
    repeat rw [BitVec.extractLsb'_append_eq_of_le (by decide)]
    exact BitVec.extractLsb'_append_eq_right
  case incomplete | nosync =>
    simp only [BitVec.getLsbD_append]
    simp

/-- REASON as a number (43_message_assembler.md R250). -/
theorem reasonCode_toNat (reason : CloseReason) :
    (reasonCode reason).toNat = match reason with | .addr => 0 | .idle => 1 | .endOfInput => 2 := by
  cases reason <;> rfl

/-- Settles O48: the kind of each record, and its other fields one by one. -/
theorem recordsHaveTheirFields : Obligations.RecordsHaveTheirFields := by
  refine ⟨fun kind cwi c => ?_, fun reason mv pcnt recipient => ?_, fun incomplete nosync n => ?_,
    fun p => ⟨rfl, rfl⟩⟩
  · exact ⟨rfl, recordKind_codewordRecord kind cwi c, codewordRecord_fields kind cwi c⟩
  · obtain ⟨code, rest⟩ := closeRecord_fields reason mv pcnt recipient
    exact ⟨rfl, recordKind_closeRecord reason mv pcnt recipient, code ▸ reasonCode_toNat reason, rest⟩
  · exact ⟨rfl, recordKind_runDoneRecord incomplete nosync n, runDoneRecord_fields incomplete nosync n⟩

/-! ### The codeword step -/

/-- PCNT counts up to 0xFFFF and stays there (43_message_assembler.md R241). -/
theorem satInc_eq_min (v : BitVec 16) : satInc v = BitVec.ofNat 16 (min (v.toNat + 1) 0xFFFF) := by
  unfold satInc
  split
  · next h => rw [h]; rfl
  · next h =>
    have below : v.toNat + 1 ≤ 0xFFFF := by bv_omega
    rw [Nat.min_eq_left below]
    bv_omega

section
variable {raw : Word} {s : State}

theorem codewordStep_of_address (h : typeOf (correctWord raw).w2 = .address) (cwi : BitVec 4) :
    codewordStep raw cwi s = onAddress cwi (correctWord raw) (countCodeword (correctWord raw) s) := by
  rw [codewordStep, assemble, h]

theorem codewordStep_of_idle (h : typeOf (correctWord raw).w2 = .idle) (cwi : BitVec 4) :
    codewordStep raw cwi s = closeIfOpen .idle (countCodeword (correctWord raw) s) := by
  rw [codewordStep, assemble, h, onIdle]

theorem codewordStep_of_payload (h : typeOf (correctWord raw).w2 = .message) (ho : s.openF = true) (cwi : BitVec 4) :
    codewordStep raw cwi s = onPayload cwi (correctWord raw) (countCodeword (correctWord raw) s) := by
  rw [codewordStep, assemble, h]
  exact if_pos ho

theorem codewordStep_of_orphan (h : typeOf (correctWord raw).w2 = .message) (ho : s.openF = false) (cwi : BitVec 4) :
    codewordStep raw cwi s = onOrphan cwi (correctWord raw) (countCodeword (correctWord raw) s) := by
  rw [codewordStep, assemble, h]
  exact if_neg (Bool.eq_false_iff.mp ho)

end

theorem onAddress_of_closed {s : State} (h : s.openF = false) (cwi : BitVec 4) (c : Correction) :
    onAddress cwi c s = { s with
      fifo := s.fifo ++ [codewordRecord 1#4 cwi c]
      openF := true, slotRW := c.w2, slotMV := c.valid, slotPcnt := 0#16 } := by
  rw [onAddress, closeIfOpen_of_closed h]
  rfl

theorem onAddress_of_open {s : State} (h : s.openF = true) (cwi : BitVec 4) (c : Correction) :
    onAddress cwi c s = { s with
      fifo := s.fifo ++ [closeRecord .addr s.slotMV s.slotPcnt s.slotRW, codewordRecord 1#4 cwi c]
      statMsg := s.statMsg + 1#32
      openF := true, slotRW := c.w2, slotMV := c.valid, slotPcnt := 0#16 } := by
  rw [onAddress, closeIfOpen_of_open h]
  simp [closeMsg, push]

theorem onPayload_eq (cwi : BitVec 4) (c : Correction) (s : State) :
    onPayload cwi c s = { s with
      fifo := s.fifo ++ [codewordRecord 2#4 cwi c]
      slotMV := s.slotMV && c.valid
      slotPcnt := BitVec.ofNat 16 (min (s.slotPcnt.toNat + 1) 0xFFFF) } := by
  rw [onPayload, satInc_eq_min]
  rfl

/-- Settles O46: the counters of every codeword leave the slot and the FIFO to the transition of its type. -/
theorem codewordStepFollowsTheType : Obligations.CodewordStepFollowsTheType := by
  intro raw cwi s s0 hs0
  obtain rfl : s0 = countCodeword (correctWord raw) s := hs0
  refine ⟨fun ht ho => ?addressClosed, fun ht ho => ?addressOpen, fun ht ho => ?idleClosed, fun ht ho => ?idleOpen,
    fun ht ho => ?payload, fun ht ho => ?orphan⟩
  case addressClosed =>
    exact (codewordStep_of_address ht cwi).trans
      (onAddress_of_closed (s := countCodeword _ _) ho cwi _)
  case addressOpen =>
    exact (codewordStep_of_address ht cwi).trans
      (onAddress_of_open (s := countCodeword _ _) ho cwi _)
  case idleClosed =>
    exact (codewordStep_of_idle ht cwi).trans
      (closeIfOpen_of_closed (s := countCodeword _ _) ho .idle)
  case idleOpen =>
    exact (codewordStep_of_idle ht cwi).trans
      (closeIfOpen_of_open (s := countCodeword _ _) ho .idle)
  case payload => exact (codewordStep_of_payload ht ho cwi).trans (onPayload_eq cwi _ _)
  case orphan => exact codewordStep_of_orphan ht ho cwi

/-- A record the codeword step can push: a MSG_CLOSE record, or a codeword record of the corrected word with its index
(43_message_assembler.md R240). -/
def StepRecord (c : Correction) (cwi : BitVec 4) (r : Record) : Prop :=
  (recordKind r).toNat = 3 ∨ (r.lo = c.w2 ∧ (recordKind r).toNat ∈ [1, 2, 4] ∧ r.hi.extractLsb' 24 4 = cwi)

section
variable {c : Correction} {cwi : BitVec 4}

theorem stepRecord_closeRecord {reason : CloseReason} {mv : Bool} {pcnt : BitVec 16} {recipient : Word} :
    StepRecord c cwi (closeRecord reason mv pcnt recipient) :=
  .inl (by rw [recordKind_closeRecord]; rfl)

theorem stepRecord_codewordRecord {kind : BitVec 4} (h : kind.toNat ∈ [1, 2, 4]) :
    StepRecord c cwi (codewordRecord kind cwi c) := by
  obtain ⟨index, -⟩ := codewordRecord_fields kind cwi c
  exact .inr ⟨rfl, (recordKind_codewordRecord kind cwi c).symm ▸ h, index⟩

end

/-- Settles O47: in each of the six cases of the codeword step the pushed records are written out. -/
theorem needCountsThePushedRecords : Obligations.NeedCountsThePushedRecords := by
  intro raw cwi s
  obtain ⟨addressClosed, addressOpen, idleClosed, idleOpen, payload, orphan⟩ :=
    codewordStepFollowsTheType raw cwi s _ rfl
  cases ht : typeOf (correctWord raw).w2 <;> cases ho : s.openF
  case address.false =>
    exact ⟨_, congrArg State.fifo (addressClosed ht ho), by simp [need, ht, ho],
      List.forall_mem_singleton.mpr (stepRecord_codewordRecord (by decide))⟩
  case address.true =>
    exact ⟨_, congrArg State.fifo (addressOpen ht ho), by simp [need, ht, ho],
      List.forall_mem_cons.mpr ⟨stepRecord_closeRecord,
        List.forall_mem_singleton.mpr (stepRecord_codewordRecord (by decide))⟩⟩
  case message.false =>
    exact ⟨_, congrArg State.fifo (orphan ht ho), by simp [need, ht],
      List.forall_mem_singleton.mpr (stepRecord_codewordRecord (by decide))⟩
  case message.true =>
    exact ⟨_, congrArg State.fifo (payload ht ho), by simp [need, ht],
      List.forall_mem_singleton.mpr (stepRecord_codewordRecord (by decide))⟩
  case idle.false =>
    exact ⟨[], by rw [idleClosed ht ho, List.append_nil], by simp [need, ht, ho], List.forall_mem_nil _⟩
  case idle.true =>
    exact ⟨_, congrArg State.fifo (idleOpen ht ho), by simp [need, ht, ho],
      List.forall_mem_singleton.mpr stepRecord_closeRecord⟩

/-! ### ASMCW and ASMEND -/

/-- Settles O45: ASM needs room for the records of its codeword, AEND for the record of the message it closes. -/
theorem asmAndAendCompleteTheirCommand : Obligations.AsmAndAendCompleteTheirCommand := by
  refine ⟨fun s he => ?_, fun s he => ?_⟩
  · have step : engineStep s = stepAsm s := by rw [engineStep, he]
    rw [step, stepAsm]
    refine ⟨fun hf => ?_, fun hf => ?_⟩
    · rw [whenFree_held hf]
    · rw [whenFree_enabled hf]
      rfl
  · have step : engineStep s = stepAend s := by rw [engineStep, he]
    rw [step, stepAend]
    refine ⟨fun ho hf => ?_, fun ho => ?_, fun ho hf => ?_⟩
    · rw [whenFree_held (by simp [ho, hf])]
    · rw [whenFree_enabled (by simp [ho]), closeIfOpen_of_closed ho]
      rfl
    · rw [whenFree_enabled (by simpa [ho] using hf), closeIfOpen_of_open ho]
      rfl

/-- Settles O22: the acceptance on an idle block, the refusal while BUSY, and the tag in CMD[3:0]. -/
theorem asmcwLatchesOperandAndTag : Obligations.AsmcwLatchesOperandAndTag := by
  intro tag
  obtain ⟨-, -, -, decodes, -⟩ := reservedFieldsAreIgnored
  exact ⟨fun _ hb => congrArg Host.Outcome.next (accept_idle hb _), fun _ hb => exec_busy (by simp) hb,
    fun a1 high => decodes a1 high tag⟩

/-- Settles O23: the acceptance on an idle block, the AEND step of a closed slot, and the refusal while BUSY. -/
theorem asmendIsAccepted : Obligations.AsmendIsAccepted := by
  refine ⟨fun s hb => ⟨congrArg Host.Outcome.next (accept_idle hb _), fun ho => ?_⟩,
    fun _ hb => exec_busy (by simp) hb, fun _ _ => decode_commandWord (i := .asmend) (by simp) (by simp)⟩
  obtain ⟨-, aend⟩ := asmAndAendCompleteTheirCommand
  obtain ⟨-, closed, -⟩ := aend { s with estate := .aend } rfl
  exact closed ho

end Sys2Proof.Machine
end

section
/-! The control commands NOP, STATCLR and SRESET, and a cycle of rst (44_control.md, 70_reset_and_hazards.md). -/

namespace Sys2Proof.Machine

/-! ### NOP and STATCLR -/

/-- Settles O7: NOP's update on an idle block is the identity, and the word 0 is its encoding. -/
theorem nopDoesNothing : Obligations.NopDoesNothing :=
  ⟨fun _ hb => congrArg Host.Outcome.next (accept_idle hb id), fun _ hb => exec_busy (by simp) hb,
    fun _ _ => decode_commandWord (i := .nop) (by simp) (by simp), decode_encode .nop⟩

/-- Settles O18: STATCLR's update on an idle block is `clearStats`. -/
theorem statclrClearsTheSixCounters : Obligations.StatclrClearsTheSixCounters :=
  ⟨fun _ hb => congrArg Host.Outcome.next (accept_idle hb clearStats), fun _ hb => exec_busy (by simp) hb,
    fun _ _ => decode_commandWord (i := .statclr) (by simp) (by simp)⟩

/-! ### SRESET and rst -/

/-- SRESET asks for no BUSY = 0, and has the effect of a cycle of rst (44_control.md R272). -/
theorem exec_sreset (s : State) : exec .sreset s = .next (rstCycle none s) := rfl

/-- A block that was reset reads STATUS as 0 (70_reset_and_hazards.md R321): STATUS shows none of what the reset kept
but FIFO_DEPTH. -/
theorem statusWord_resetBlock {s : State} (h : s.params.wf) : statusWord (resetBlock s) = 0#32 := by
  have same : statusWord (resetBlock s) = statusWord (State.resetWith s.params) := rfl
  exact same.trans (statusWord_resetWith h)

/-- Settles O19: the state both ways lead to is `resetBlock s`, and a read attempted in the cycle only sets its
answer. -/
theorem sresetAndRstResetAllButTheBuffer : Obligations.SresetAndRstResetAllButTheBuffer := by
  refine ⟨fun _ _ => decode_commandWord (i := .sreset) (by simp) (by simp), fun s => ?_⟩
  refine ⟨resetBlock s, exec_sreset s, ?fields, statusWord_resetBlock, ?noAccess, ?write, ?read⟩
  case fields | noAccess => rfl
  case write | read => intros; rfl

end Sys2Proof.Machine
end

section
/-! What the host may do while a command runs (70_reset_and_hazards.md R330), and the engine's turn on a written input
(R324). -/

namespace Sys2Proof.Machine

/-! ### The engine on a written input -/

/-- An outcome without a reason to fault is a next state. -/
theorem FaultsExactly.exists_next {o : Host.Outcome State Fault Refusal} {P : Fault → Prop} (h : FaultsExactly o P)
    (safe : ∀ f, ¬ P f) : ∃ t, o = .next t := by
  cases ho : o with
  | next t => exact ⟨t, rfl⟩
  | fault f => exact absurd ((h.fault_iff f).mp ho) (safe f)
  | refused r => exact absurd ho (h.not_refused r)

/-- The windows that SCAN and BATCH read lie below LEN, where a loaded input is written (20_memory.md R88). -/
theorem Loaded.not_windowUnwritten {s : State} (hl : Loaded s) (hi : Inv s) : ¬ WindowUnwritten s := by
  rintro (⟨-, unwritten, below⟩ | ⟨batch, unwritten⟩)
  · obtain ⟨w, written⟩ := hl.window_eq_some below
    exact nomatch unwritten.symm.trans written
  · obtain ⟨w, written⟩ := hl.window_eq_some (hi.codewordPos_le batch)
    exact nomatch unwritten.symm.trans written

/-- Settles O55: the engine faults on an unwritten window only, and its moves leave the buffer and LEN as they are. -/
theorem loadedRunNeverFaults : Obligations.LoadedRunNeverFaults := by
  intro s hi hl
  obtain ⟨t, ht⟩ := (engineStep_faults s).exists_next fun _ ⟨_, unwritten⟩ => hl.not_windowUnwritten hi unwritten
  exact ⟨t, ht, (EngineMove.of_engineStep ht).loaded hl⟩

/-! ### What a read shows of the engine state -/

section
variable {e : EState} {s t : State}

theorem readOutHi_setEstate : readOutHi (setEstate e s) = setEstate e (readOutHi s) := by
  cases h : s.fifo with
  | nil =>
    rw [readOutHi_nil h, readOutHi_nil (s := setEstate e s) h]
    rfl
  | cons r rest =>
    rw [readOutHi_cons h, readOutHi_cons (s := setEstate e s) h]
    rfl

theorem readOutLo_setEstate : readOutLo (setEstate e s) = setEstate e (readOutLo s) := by
  cases h : s.fifo with
  | nil =>
    rw [readOutLo_nil h, readOutLo_nil (s := setEstate e s) h]
    rfl
  | cons r rest =>
    rw [readOutLo_cons h, readOutLo_cons (s := setEstate e s) h]
    rfl

theorem readBufdata_setEstate (h : readBufdata s = .next t) :
    readBufdata (setEstate e s) = .next (setEstate e t) := by
  obtain ⟨-, faults⟩ | ⟨v, hv, answers⟩ := readBufdata_cases s
  · exact nomatch faults.symm.trans h
  · cases answers.symm.trans h
    rw [readBufdata, setEstate_ibb, setEstate_bufaddr, hv]
    rfl

/-- STATUS alone shows the engine state: the answer and the effect of any other read are the same in all of them. -/
theorem readReg_setEstate {r : Reg} (hr : r ≠ .status) (h : readReg r s = .next t) :
    readReg r (setEstate e s) = .next (setEstate e t) := by
  cases r
  case status => exact absurd rfl hr
  case bufdata => exact readBufdata_setEstate h
  case outHi =>
    cases h
    exact congrArg Host.Outcome.next readOutHi_setEstate
  case outLo =>
    cases h
    exact congrArg Host.Outcome.next readOutLo_setEstate
  all_goals
    cases h
    rfl

/-- A read writes its answer, BUFADDR and the FIFO only. -/
theorem ReadMove.frame (m : ReadMove s t) : t = { s with rdata := t.rdata, bufaddr := t.bufaddr, fifo := t.fifo } := by
  cases m <;> rfl

end

/-! ### What is refused while BUSY -/

/-- The addresses of the writable registers (10_state.md R40). -/
theorem mem_writable_iff {a : BitVec 7} : regAt a ∈ [.cmd, .status, .opa, .len, .bufaddr, .bufdata] ↔
    a.toNat / 4 ∈ [1, 2, 3, 6, 7, 8] := by
  have hopa : regAt a = .opa ↔ a.toNat / 4 = 3 := regAt_eq_iff (by decide) a
  have hlen : regAt a = .len ↔ a.toNat / 4 = 6 := regAt_eq_iff (by decide) a
  have haddr : regAt a = .bufaddr ↔ a.toNat / 4 = 7 := regAt_eq_iff (by decide) a
  simp only [List.mem_cons, List.not_mem_nil, or_false, regAt_eq_cmd, regAt_eq_status, hopa, hlen, haddr,
    regAt_eq_bufdata]

/-- Settles O24: the refusals are those of acceptance, and of everything else the port does only the STATUS word asks for
BUSY. -/
theorem onlyCmdLenAndBufdataWritesAreRefusedWhileBusy : Obligations.OnlyCmdLenAndBufdataWritesAreRefusedWhileBusy := by
  intro s hb
  refine ⟨fun c hc => ?command, fun v => congrArg Host.Outcome.next (accept_busy hb _),
    fun v => congrArg Host.Outcome.next (accept_busy hb _), fun v => rfl, fun v => rfl, fun v => rfl,
    fun a v ha => ?ignored, fun c hc => ?sreset, fun a t ha h => ?read, fun a ha => ?status, fun a t h => ?frame⟩
  case command =>
    obtain ⟨-, refused, -⟩ := cmdWriteFollowsTheAcceptanceOrder c s
    exact refused hc hb
  case sreset =>
    obtain ⟨reset, -⟩ := cmdWriteFollowsTheAcceptanceOrder c s
    exact reset hc
  case ignored => exact writeReg_of_not_writable (mt mem_writable_iff.mp ha) v s
  case read => exact readReg_setEstate (s := setEstate .idle s) (e := s.estate) (mt regAt_eq_status.mp ha) h
  case status =>
    rw [hostAccess, regAt_eq_status.mpr ha]
    rfl
  case frame => exact (ReadMove.of_readReg h).frame

end Sys2Proof.Machine
end
